-- ==== Sys2Proof/Word.lean ====
section
/-! DEFINITION. The words of MM3-CORE: the 16-bit operation word, the 12-bit operand field and the
8-bit character (R9, R83). -/

namespace Sys2Proof

/-- An operation word, 16 bits (R83, R90). -/
abbrev Word := BitVec 16

/-- A SecurityCharacter, "an 8-bit code" (R9). -/
abbrev Byte := BitVec 8

/-- A 12-bit operand field: a duration in ms (R84, WAIT). -/
abbrev Ms := BitVec 12

/-- A 12-bit operand field: an absolute operation index (R84, BNA, JMP, BDO). -/
abbrev Index := BitVec 12

end Sys2Proof
end

