-- ==== Sys2Proof/Syntax.lean ====
section
/-! DEFINITION. The 15 operations of spec/opcode_table.json, whole, in the table's order (R83). -/

namespace Sys2Proof

/-- `Level := Low | High` (R20): the operand of LVL and of the primitive PLVL. -/
inductive Level where
  | low
  | high
  deriving DecidableEq, Repr

/-- The mode operand of MODE (R231): `m` = 0 is HiZ, 1 is DriveLow. -/
inductive LineMode where
  | hiz
  | driveLow
  deriving DecidableEq, Repr

/-- The five region profiles (R8, R85). -/
inductive Profile where
  | all
  | na
  | eur
  | jpn
  | debug
  deriving DecidableEq, Repr

/-- One constructor per row of the opcode table. Reserved operand values that this type can still
spell (MODE with no line, CYCLE with r = 0; R88) are refused by `Instr.wf`. -/
inductive Instr where
  /-- WAIT (R123): busy-wait `n` ms. -/
  | wait (n : Ms)
  /-- LVL (R150): drive the data line to a level. -/
  | lvl (v : Level)
  /-- MODE (R231): put the lines named by `data` and `gate` into mode `m`. -/
  | mode (data gate : Bool) (m : LineMode)
  /-- SEND (R151): transmit one character. -/
  | send (b : Byte)
  /-- CYCLE (R171): run one injection cycle of `r` outer repetitions. -/
  | cycle (p : Profile) (r : BitVec 9)
  /-- BNA (R230): branch if not armed. -/
  | bna (tgt : Index)
  /-- JMP (R124): unconditional jump. -/
  | jmp (tgt : Index)
  /-- ARMSET (R196): set ArmState to Armed. -/
  | armset
  /-- ARMCLR (R233): set ArmState to Disarmed. -/
  | armclr
  /-- HALT (R234): enter the low-power halt. -/
  | halt
  /-- CLRPEND (R192): clear the pending flag. -/
  | clrpend
  /-- IDIS (R194): disable interrupt delivery. -/
  | idis
  /-- IEN (R197): enable interrupt delivery. -/
  | ien
  /-- BDO (R193): branch if the door reads open. -/
  | bdo (tgt : Index)
  /-- RETI (R198): return from the interrupt context. -/
  | reti
  deriving DecidableEq, Repr

/-- The two contexts (R20, R31, R271). -/
inductive CtxId where
  | main
  | isr
  deriving DecidableEq, Repr

end Sys2Proof
end

