-- ==== Sys2Proof/Config.lean ====
section
/-! DEFINITION. The configuration parameters of R8, which no operation changes, and the model's free
values: the door input and the delivery draws where a run lists none. -/

namespace Sys2Proof

/-- The characters of the protocol alphabet (R8, R82). -/
inductive Chr where
  | S
  | C
  | E
  | A
  | I
  | W
  deriving DecidableEq, Repr

/-- `CODE(c)` for each character (R8, R82). The defaults are the spec's ASCII codes. -/
structure Codes where
  s : Byte := 0x53
  c : Byte := 0x43
  e : Byte := 0x45
  a : Byte := 0x41
  i : Byte := 0x49
  w : Byte := 0x57
  deriving DecidableEq, Repr

/-- `SEL(p)` for each single-selector profile (R8, R170), with the spec's defaults. -/
structure Selectors where
  na : Chr := .A
  eur : Chr := .E
  jpn : Chr := .I
  debug : Chr := .W
  deriving DecidableEq, Repr

/-- `DOOR_EDGE` (R8, R190). -/
inductive DoorEdge where
  | falling
  | anyChange
  deriving DecidableEq, Repr

/-- The configuration parameters of R8. -/
structure Config where
  /-- `R`, the outer repetition count, 1..511. -/
  r : BitVec 9 := 30
  /-- `PROFILE`. -/
  profile : Profile
  /-- `CODE`. -/
  codes : Codes := {}
  /-- `SEL`. -/
  sels : Selectors := {}
  /-- `TPM`, ticks per millisecond, at least 1. -/
  tpm : Nat := 1
  /-- `DOOR_EDGE`. -/
  doorEdge : DoorEdge := .falling
  /-- `ARM_RESET`: true is Armed. OPEN in the spec (D14). -/
  armReset : Bool
  /-- `MAX_ZT`, at least 32. -/
  maxZt : Nat := 1024
  /-- `TOL`: OPEN in the spec (D30), read by no rule; `none` says it is not given (log 8). -/
  tol : Option Nat := none
  deriving DecidableEq, Repr

/-- The configuration of `State.reset`: the values R8 uses, with DESIGN CHOICE `PROFILE` = All
(R8 fixes none; log 7) and DESIGN CHOICE `ARM_RESET` = Disarmed (R8 leaves it OPEN; log 6).
`State.resetWith` takes any configuration. -/
def Config.reference : Config := { profile := .all, armReset := false }

/-- FREE VALUE: the door level of a tick for which the run lists none (R22: any trace; log 4). -/
opaque Config.freeDoor : Nat → Bool

/-- FREE VALUE: the draw of a tick and delivery opportunity for which the run lists none
(R265: any choice; log 5). -/
opaque Config.freeDraw : Nat → Nat → Bool

end Sys2Proof
end

