-- ==== Sys2Proof/Machine/Inputs.lean ====
section
/-! DEFINITION. The inputs of a run: the door trace (R22) and the delivery draws (R120, R265). -/

namespace Sys2Proof.Machine

/-- The inputs of a run, plain data: what the run lists of them. Everything not listed is a free
value (logs 4 and 5). No step writes them. -/
structure Inputs where
  /-- `door(0), door(1), …`: true = 1 = high = open, false = 0 = low = closed (R22). -/
  door : List Bool := []
  /-- The draws of tick 0, of tick 1, …: one Boolean per delivery opportunity of the tick (R265). -/
  draws : List (List Bool) := []
  deriving DecidableEq, Repr

/-- `door(t)` (R22). -/
def Inputs.doorAt (x : Inputs) (t : Nat) : Bool := (x.door[t]?).getD (Config.freeDoor t)

/-- `draws(b)` of tick t (R120, R265). -/
def Inputs.drawAt (x : Inputs) (t b : Nat) : Bool :=
  (((x.draws[t]?).getD [])[b]?).getD (Config.freeDraw t b)

end Sys2Proof.Machine
end

