-- ==== Sys2Proof/WellFormed.lean ====
section
/-! DEFINITION. Which operations the spec admits: the operand values an encoding exists for (R88),
the contexts that admit an operation (R94) and its branch target (R93). -/

namespace Sys2Proof

/-- MODE names at least one line (R83, R88). -/
def Instr.namesALine : Instr → Bool
  | .mode d g _ => d || g
  | _ => true

/-- CYCLE has `r` in 1..511 (R88, R171). -/
def Instr.repeatsOnce : Instr → Bool
  | .cycle _ r => r != 0
  | _ => true

/-- The operation has an encoding: every operand value is one R83 to R88 admit. -/
def Instr.wf (i : Instr) : Bool := i.namesALine && i.repeatsOnce

/-- The table of R94: may the operation stand in the program of this context? -/
def Instr.admittedIn : CtxId → Instr → Bool
  | _, .wait _ => true
  | _, .jmp _ => true
  | .main, .lvl _ => true
  | .main, .send _ => true
  | .main, .cycle _ _ => true
  | .main, .mode _ _ _ => true
  | .main, .bna _ => true
  | .main, .armclr => true
  | .main, .halt => true
  | .isr, .armset => true
  | .isr, .clrpend => true
  | .isr, .bdo _ => true
  | .isr, .idis => true
  | .isr, .ien => true
  | .isr, .reti => true
  | _, _ => false

/-- The target of a branch or jump (R84, R93). -/
def Instr.target : Instr → Option Index
  | .bna t => some t
  | .jmp t => some t
  | .bdo t => some t
  | _ => none

/-- R93: `tgt < len` of the program the operation stands in. -/
def Instr.targetBelow (len : Nat) (i : Instr) : Bool :=
  match i.target with
  | some t => decide (t.toNat < len)
  | none => true

end Sys2Proof
end

