-- ==== Sys2Proof/Decode.lean ====
section
/-! DEFINITION. Decoding and encoding of operation words (R83 to R90), and the pseudo-instructions
of the assembler (R92). -/

namespace Sys2Proof

/-- Why a reserved word decodes to `Invalid` (R88). -/
inductive Invalid where
  /-- Opcode 0xF. -/
  | opcode
  /-- A non-zero reserved bit. -/
  | reservedBits
  /-- MODE with `a[1:0]` = 0. -/
  | noLine
  /-- CYCLE with `p` in 5..7. -/
  | profile
  /-- CYCLE with `r` = 0. -/
  | zeroRepetitions
  deriving DecidableEq, Repr

/-- The result of decoding (R87): one operation with its fields, or `Invalid(reason)`. -/
inductive Decoded where
  | op (i : Instr)
  | invalid (why : Invalid)
  deriving DecidableEq, Repr

/-- The opcode `w[15:12]` (R83). -/
def opcodeOf (w : Word) : Nat := (w.extractLsb' 12 4).toNat

/-- The operand field `a = w[11:0]` (R83). -/
def operandOf (w : Word) : BitVec 12 := w.extractLsb' 0 12

/-- `v` of LVL: 1 = High, 0 = Low (R83). -/
def levelOfBit : Bool → Level
  | true => .high
  | false => .low

/-- `v` of LVL as a bit (R83). -/
def bitOfLevel : Level → Bool
  | .high => true
  | .low => false

/-- `m` of MODE: 0 = HiZ, 1 = DriveLow (R83). -/
def lineModeOfBit : Bool → LineMode
  | true => .driveLow
  | false => .hiz

/-- `m` of MODE as a bit (R83). -/
def bitOfLineMode : LineMode → Bool
  | .driveLow => true
  | .hiz => false

/-- The profile codes of R85; 5, 6 and 7 are reserved. -/
def profileOfCode : Nat → Option Profile
  | 0 => some .all
  | 1 => some .na
  | 2 => some .eur
  | 3 => some .jpn
  | 4 => some .debug
  | _ => none

/-- The profile codes of R85. -/
def codeOfProfile : Profile → BitVec 3
  | .all => 0
  | .na => 1
  | .eur => 2
  | .jpn => 3
  | .debug => 4

/-- An operation with no operand: all of `a` is reserved (R83). -/
def decodeBare (i : Instr) (a : BitVec 12) : Decoded :=
  if a = 0 then .op i else .invalid .reservedBits

/-- LVL: `v = a[0]`, `a[11:1]` reserved (R83). -/
def decodeLvl (a : BitVec 12) : Decoded :=
  if a.extractLsb' 1 11 = 0 then .op (.lvl (levelOfBit (a.getLsbD 0))) else .invalid .reservedBits

/-- MODE: `DATA = a[0]`, `GATE = a[1]`, `m = a[2]`, `a[11:3]` reserved, `a[1:0]` not 0 (R83). -/
def decodeMode (a : BitVec 12) : Decoded :=
  if a.extractLsb' 3 9 = 0 then
    if a.extractLsb' 0 2 = 0 then .invalid .noLine
    else .op (.mode (a.getLsbD 0) (a.getLsbD 1) (lineModeOfBit (a.getLsbD 2)))
  else .invalid .reservedBits

/-- SEND: `b = a[7:0]`, `a[11:8]` reserved (R83). -/
def decodeSend (a : BitVec 12) : Decoded :=
  if a.extractLsb' 8 4 = 0 then .op (.send (a.extractLsb' 0 8)) else .invalid .reservedBits

/-- CYCLE: `p = a[2:0]`, `r = a[11:3]`; `p` in 5..7 and `r` = 0 are reserved (R83, R85). -/
def decodeCycle (a : BitVec 12) : Decoded :=
  match profileOfCode (a.extractLsb' 0 3).toNat with
  | none => .invalid .profile
  | some p =>
    if a.extractLsb' 3 9 = 0 then .invalid .zeroRepetitions else .op (.cycle p (a.extractLsb' 3 9))

/-- `decode(w)`, total (R87): the table of R83. -/
def decode (w : Word) : Decoded :=
  match opcodeOf w with
  | 0x0 => .op (.wait (operandOf w))
  | 0x1 => decodeLvl (operandOf w)
  | 0x2 => decodeMode (operandOf w)
  | 0x3 => decodeSend (operandOf w)
  | 0x4 => decodeCycle (operandOf w)
  | 0x5 => .op (.bna (operandOf w))
  | 0x6 => .op (.jmp (operandOf w))
  | 0x7 => decodeBare .armset (operandOf w)
  | 0x8 => decodeBare .armclr (operandOf w)
  | 0x9 => decodeBare .halt (operandOf w)
  | 0xA => decodeBare .clrpend (operandOf w)
  | 0xB => decodeBare .idis (operandOf w)
  | 0xC => decodeBare .ien (operandOf w)
  | 0xD => .op (.bdo (operandOf w))
  | 0xE => decodeBare .reti (operandOf w)
  | _ => .invalid .opcode

/-- The operation a word decodes to, if any. -/
def Decoded.toOption : Decoded → Option Instr
  | .op i => some i
  | .invalid _ => none

/-- The word of an operation, from the same table (R83). A well-formed operation's word decodes to
it; a MODE with no line and a CYCLE with r = 0 give the reserved words of R88. -/
def encode : Instr → Word
  | .wait n => 0x0#4 ++ n
  | .lvl v => 0x1#4 ++ (0#11 ++ BitVec.ofBool (bitOfLevel v))
  | .mode d g m =>
    0x2#4 ++ (0#9 ++ (BitVec.ofBool (bitOfLineMode m) ++ (BitVec.ofBool g ++ BitVec.ofBool d)))
  | .send b => 0x3#4 ++ (0#4 ++ b)
  | .cycle p r => 0x4#4 ++ (r ++ codeOfProfile p)
  | .bna t => 0x5#4 ++ t
  | .jmp t => 0x6#4 ++ t
  | .armset => 0x7000
  | .armclr => 0x8000
  | .halt => 0x9000
  | .clrpend => 0xA000
  | .idis => 0xB000
  | .ien => 0xC000
  | .bdo t => 0xD#4 ++ t
  | .reti => 0xE000

/-- What the decoder reads from a table row's word. Every operation is one 16-bit word (R90), and
bit 0 of the table is bit 0 of the word. -/
def decodeTableWord (nbits w : Nat) : Option Instr :=
  (decode (BitVec.ofNat 16 (w % 2 ^ nbits))).toOption

/-- The pseudo-instruction `NOP` (R89, R92). -/
def Instr.pseudoNop : Instr := .wait 0

/-- The pseudo-instruction `HIZ lines` (R92). -/
def Instr.pseudoHiz (data gate : Bool) : Instr := .mode data gate .hiz

/-- The pseudo-instruction `DRVL lines` (R92). -/
def Instr.pseudoDrvl (data gate : Bool) : Instr := .mode data gate .driveLow

/-- The pseudo-instruction `HIGH` (R92). -/
def Instr.pseudoHigh : Instr := .lvl .high

/-- The pseudo-instruction `LOW` (R92). -/
def Instr.pseudoLow : Instr := .lvl .low

end Sys2Proof
end

