-- ==== Sys2Proof/Machine/Constants.lean ====
section
/-! DEFINITION. The constants the source fixes, each under its name (R7). Durations are in ms. -/

namespace Sys2Proof.Machine

/-- `T_BIT`: the start bit and each data bit. -/
def tBit : Ms := 4

/-- `T_END`: the end marker, two bit periods. -/
def tEnd : Ms := 8

/-- `N_DATA`: data bits per character. -/
def nData : Nat := 8

/-- `T_CHAR`: one character, derived as 4 + 8×4 + 8. -/
def tChar : Nat := tBit.toNat + nData * tBit.toNat + tEnd.toNat

/-- `INNER`: inner-loop iterations per outer repetition. -/
def nInner : Nat := 4

/-- `T_TRAIL`: the trailer after each group. -/
def tTrail : Ms := 72

/-- `T_WARM_A`: warm-up before the data line goes to drive-low. -/
def tWarmA : Ms := 50

/-- `T_WARM_B`: warm-up before the gate line goes to drive-low. -/
def tWarmB : Ms := 850

/-- `T_WARM_C`: warm-up before the sequencer starts. -/
def tWarmC : Ms := 314

/-- `T_DEB`: the debounce window. -/
def tDeb : Ms := 50

end Sys2Proof.Machine
end

