-- ==== Sys2Proof/Machine/Programs.lean ====
section
/-! DEFINITION. The two fixed programs, the block's control (R96). -/

namespace Sys2Proof.Machine

/-- `PROG_M`, the InjectionController (R96), as operations; index 6 carries the configured `PROFILE`
and `R`. -/
def fixedMainOps (c : Config) : List Instr :=
  [.bna 9,
   .wait tWarmA,
   .mode true false .driveLow,
   .wait tWarmB,
   .mode false true .driveLow,
   .wait tWarmC,
   .cycle c.profile c.r,
   .mode true true .hiz,
   .armclr,
   .halt,
   .jmp 0]

/-- `PROG_I`, the DoorMonitor (R96), as operations. -/
def fixedIsrOps : List Instr :=
  [.clrpend, .bdo 7, .idis, .wait tDeb, .bdo 6, .armset, .ien, .reti]

/-- `PROG_M` as words (R96). -/
def fixedMain (c : Config) : List Word := (fixedMainOps c).map encode

/-- `PROG_I` as words (R96). -/
def fixedIsr : List Word := fixedIsrOps.map encode

end Sys2Proof.Machine
end

