-- ==== Sys2Proof/Machine/State.lean ====
section
/-! DEFINITION. The state of the block: the record of R20, the parameters of the run and the position
inside R121's tick; the reasons a step can stop; the state after reset (R40). -/

namespace Sys2Proof.Machine

/-- `DataDrive` (R20, R32). -/
inductive DataDrive where
  | hiZ
  | driveLow
  | driveHigh
  deriving DecidableEq, Repr

/-- `GateDrive` (R20, R33): never DriveHigh. -/
inductive GateDrive where
  | hiZ
  | driveLow
  deriving DecidableEq, Repr

/-- `Prim` (R20, R125): the primitives, which exist only inside expansion queues. -/
inductive Prim where
  | plvl (v : Level)
  | pwait (n : Ms)
  deriving DecidableEq, Repr

/-- `CtxState` (R20): a context's program counter (R25), expansion queue (R26) and wait counter in
ticks (R27). -/
structure CtxState where
  pc : Nat := 0
  q : List Prim := []
  wait : Nat := 0
  deriving DecidableEq, Repr

/-- `FaultReason` (R20, R261). A fault is recorded in `State.fault`, and `step` answers `next`: the
spec gives the state after it (R35, R262), so no step ends in `Outcome.fault` (log 9). -/
inductive Fault where
  /-- Raised by `fetchExec` when the executing context fetches at pc ≥ len (R122). Safe: the spec
  names it. -/
  | pcOutOfRange
  /-- Raised by `loopBody` when more than MAX_ZT zero-time operations run in one tick (R121). Safe:
  the spec names it. -/
  | zeroTimeLoop
  deriving DecidableEq, Repr

/-- What R95 finds wrong with a pair of programs. -/
inductive ProgramFlaw where
  /-- WF1: a word does not decode. -/
  | reservedWord
  /-- WF2: an operation stands in a context that R94 does not admit it in. -/
  | wrongContext
  /-- WF3: a target is not below its program's length. -/
  | targetOutOfRange
  /-- WF4: a program has no word or more than 4096. -/
  | badLength
  /-- WF5: PROG_I has no RETI. -/
  | noReti
  deriving DecidableEq, Repr

/-- Why a run is refused. -/
inductive Refusal where
  /-- Raised by an arm of exec whose instruction has no meaning yet. Safe. No arm does. -/
  | notModelled (mnemonic : String)
  /-- Raised by `step` before anything runs: a parameter is outside the range R8 gives it (D13,
  D17). Safe. -/
  | configOutOfRange
  /-- Raised by `step` before anything runs: R95 does not admit the pair of programs (R88, D26).
  Safe. -/
  | programNotAdmitted (flaw : ProgramFlaw)
  deriving DecidableEq, Repr

/-- Where a step stands in R121's `tick`: phase 1 (the edge detector) or phase 2 (the run loop). -/
inductive Phase where
  | sample
  | run
  deriving DecidableEq, Repr

/-- The position of the run inside R120's and R121's `tick`: the MODEL's own bookkeeping (log 2). -/
structure Pos where
  /-- The argument t: the number of the current tick. -/
  t : Nat := 0
  /-- What the next step does. -/
  phase : Phase := .sample
  /-- The local z: zero-time operations this tick. -/
  z : Nat := 0
  /-- The local b: delivery opportunities this tick. -/
  b : Nat := 0
  deriving DecidableEq, Repr

/-- The parameters of a run, which no step writes (R8, R20, R61, R69; log 3). -/
structure Params where
  cfg : Config
  progM : List Word
  progI : List Word
  inputs : Inputs := {}
  deriving DecidableEq, Repr

/-- The state: the record of R20, then the model's `pos` and `par`. -/
structure State where
  /-- ArmState: true = Armed (R24). -/
  arm : Bool
  /-- Door interrupt pending flag (R28). -/
  pending : Bool
  /-- Interrupt delivery enable (R29). -/
  ie : Bool
  /-- `door_prev`, the edge detector's previous sample (R30). -/
  doorPrev : Bool
  /-- The context that owns the rest of the tick (R31). -/
  ctx : CtxId
  /-- The main context is in the low-power halt (R31, R276). -/
  halted : Bool
  /-- The main context's record. -/
  m : CtxState
  /-- The interrupt context's record. -/
  i : CtxState
  /-- Data output line (R32). -/
  data : DataDrive
  /-- Gate output line (R33). -/
  gate : GateDrive
  /-- The recorded fault (R35). -/
  fault : Option Fault
  /-- Position in the tick (the model's own). -/
  pos : Pos
  /-- Parameters of the run (never written). -/
  par : Params
  deriving DecidableEq, Repr

/-- The state after reset (R40, R301) for a configuration and the inputs of a run, with the fixed
programs of R96. -/
def State.resetWith (c : Config) (x : Inputs) : State :=
  { arm := c.armReset
    pending := false
    ie := true
    doorPrev := x.doorAt 0
    ctx := .main
    halted := false
    m := {}
    i := {}
    data := .hiZ
    gate := .hiZ
    fault := none
    pos := {}
    par := { cfg := c, progM := fixedMain c, progI := fixedIsr, inputs := x } }

/-- The machine right after reset, in the reference configuration (logs 6 and 7), with no input
listed: every door level and every draw is a free value (logs 4 and 5). -/
def State.reset : State := State.resetWith Config.reference {}

end Sys2Proof.Machine
end

