-- ==== Sys2Proof/Machine/Admission.lean ====
section
/-! DEFINITION. What a run is refused for before it runs: a configuration outside R8's ranges, and a
pair of programs that R95 does not admit (R93, R94). -/

namespace Sys2Proof.Machine

/-- The ranges of R8: `R` in 1..511, `TPM` at least 1, `MAX_ZT` at least 32. -/
def configInRange (c : Config) : Bool := c.r != 0 && decide (1 ≤ c.tpm) && decide (32 ≤ c.maxZt)

/-- A program's operations, if every word decodes (WF1). -/
def decodeAll : List Word → Option (List Instr)
  | [] => some []
  | w :: ws =>
    match decode w, decodeAll ws with
    | .op i, some is => some (i :: is)
    | _, _ => none

/-- WF2 (R94). -/
def contextsAdmitted (m i : List Instr) : Bool :=
  m.all (Instr.admittedIn .main) && i.all (Instr.admittedIn .isr)

/-- WF3 (R93). -/
def targetsInRange (m i : List Instr) : Bool :=
  m.all (Instr.targetBelow m.length) && i.all (Instr.targetBelow i.length)

/-- WF4, for one program: at least one word and at most 4096. -/
def lengthInRange (p : List Instr) : Bool := decide (1 ≤ p.length) && decide (p.length ≤ 4096)

/-- WF5. -/
def hasReti (i : List Instr) : Bool := i.any (fun op => decide (op = .reti))

/-- The first of WF1 to WF5 that fails (R95); `none` where the pair is admitted. -/
def programFlaw (progM progI : List Word) : Option ProgramFlaw :=
  match decodeAll progM, decodeAll progI with
  | some m, some i =>
    if contextsAdmitted m i = false then some .wrongContext
    else if targetsInRange m i = false then some .targetOutOfRange
    else if (lengthInRange m && lengthInRange i) = false then some .badLength
    else if hasReti i = false then some .noReti
    else none
  | _, _ => some .reservedWord

/-- Why the run is refused, if it is (R8, R88, R95). -/
def Params.refusal (p : Params) : Option Refusal :=
  if configInRange p.cfg = false then some .configOutOfRange
  else (programFlaw p.progM p.progI).map .programNotAdmitted

/-- The run is admitted: nothing refuses it. -/
def Params.admitted (p : Params) : Bool := p.refusal.isNone

end Sys2Proof.Machine
end

