-- ==== Sys2Proof/Machine/Flags.lean ====
section
/-! DEFINITION. The flags `arm`, `pending`, `ie`, `halted` and `ctx`: their writers, the condition an
edge sets `pending` on, and the conditions delivery reads them for (R24, R28, R29, R31, R265). -/

namespace Sys2Proof.Machine

/-- Write ArmState (R24). -/
def State.setArm (s : State) (v : Bool) : State := { s with arm := v }

/-- Write the pending flag (R28). -/
def State.setPending (s : State) (v : Bool) : State := { s with pending := v }

/-- Write the delivery enable (R29). -/
def State.setIe (s : State) (v : Bool) : State := { s with ie := v }

/-- Write the halted flag (R31). -/
def State.setHalted (s : State) (v : Bool) : State := { s with halted := v }

/-- Write the context that owns the rest of the tick (R31). -/
def State.setCtx (s : State) (c : CtxId) : State := { s with ctx := c }

/-- `edge(DOOR_EDGE, prev, d)` (R190), with true = 1 = open: a falling edge is open to closed. -/
def edge : DoorEdge → Bool → Bool → Bool
  | .falling, prev, d => prev && !d
  | .anyChange, prev, d => prev != d

/-- A delivery opportunity: `ctx = Main`, `pending` and `ie` all hold (R265). -/
def State.opportunity (s : State) : Bool :=
  match s.ctx with
  | .main => s.pending && s.ie
  | .isr => false

/-- At an opportunity, delivery must happen if the main context would consume the tick: it is halted
or waits (R121, R265). -/
def State.mustDeliver (s : State) : Bool := s.halted || decide (0 < s.m.wait)

/-- The draw of the current opportunity, `draws(b)` (R121, R265). -/
def State.draw (s : State) : Bool := s.par.inputs.drawAt s.pos.t s.pos.b

/-- At an opportunity, delivery happens (R121, R265). -/
def State.delivers (s : State) : Bool := s.mustDeliver || s.draw

end Sys2Proof.Machine
end

