-- ==== Sys2Proof/Machine/Operands.lean ====
section
/-! DEFINITION. Operand forms: durations in ticks (R11), levels and modes as drive states (R125, R231),
characters and selectors (R82, R170), and the expansions of SEND and CYCLE (R151, R171). -/

namespace Sys2Proof.Machine

/-- `ms(n) = n × TPM` (R11, R126): a duration in ms as ticks. -/
def ms (c : Config) (n : Ms) : Nat := n.toNat * c.tpm

/-- High drives the line high, Low drives it low (R125, R150). -/
def driveOfLevel : Level → DataDrive
  | .high => .driveHigh
  | .low => .driveLow

/-- The data line's drive state in a mode of MODE (R231). -/
def dataOfMode : LineMode → DataDrive
  | .hiz => .hiZ
  | .driveLow => .driveLow

/-- The gate line's drive state in a mode of MODE (R231). -/
def gateOfMode : LineMode → GateDrive
  | .hiz => .hiZ
  | .driveLow => .driveLow

/-- `CODE(c)` (R82). -/
def code (c : Config) : Chr → Byte
  | .S => c.codes.s
  | .C => c.codes.c
  | .E => c.codes.e
  | .A => c.codes.a
  | .I => c.codes.i
  | .W => c.codes.w

/-- The selector character of profile p at inner index k (R170); k runs 4, 3, 2, 1. -/
def selectorChr (c : Config) : Profile → Nat → Chr
  | .all, 4 => .A
  | .all, 3 => .E
  | .all, 2 => .I
  | .all, _ => .W
  | .na, _ => c.sels.na
  | .eur, _ => c.sels.eur
  | .jpn, _ => c.sels.jpn
  | .debug, _ => c.sels.debug

/-- `sel(p, k)` (R170). -/
def sel (c : Config) (p : Profile) (k : Nat) : Byte := code c (selectorChr c p k)

/-- The level a data bit is sent as: inverted polarity (R80, R151). -/
def levelOfDataBit : Bool → Level
  | false => .high
  | true => .low

/-- One slot of a frame: drive the level, hold it (R151). -/
def slot (v : Level) (n : Ms) : List Prim := [.plvl v, .pwait n]

/-- `expand_send(b)` (R151): start bit, data bits LSB first, end marker. -/
def expandSend (b : Byte) : List Prim :=
  slot .high tBit
    ++ (List.range nData).flatMap (fun j => slot (levelOfDataBit (b.getLsbD j)) tBit)
    ++ slot .low tEnd

/-- `expand_group(p, k)` (R171): preamble, selector, trailer. -/
def expandGroup (c : Config) (p : Profile) (k : Nat) : List Prim :=
  expandSend (code c .S) ++ expandSend (code c .C) ++ expandSend (code c .E)
    ++ expandSend (sel c p k) ++ [.pwait tTrail]

/-- The inner loop of `expand_cycle`: k = INNER downto 1 (R171). -/
def expandRepetition (c : Config) (p : Profile) : List Prim :=
  (List.range nInner).flatMap (fun x => expandGroup c p (nInner - x))

/-- `expand_cycle(p, r)` (R171): the inner loop, r times. -/
def expandCycle (c : Config) (p : Profile) (r : Nat) : List Prim :=
  (List.replicate r (expandRepetition c p)).flatten

end Sys2Proof.Machine
end

