-- ==== Sys2Proof/Machine/Ops.lean ====
section
/-! DEFINITION. The named operations over the state: the live context's record, the lines, the door,
delivery of the interrupt and the return from it, raising a fault, the edge detector, and consuming a
tick. -/

namespace Sys2Proof.Machine

/-- What a step, an operation or a tick answers. -/
abbrev Answer := Host.Outcome State Fault Refusal

/-! The live context's record, `C` of R121: `m` or `i`. -/

/-- `C` (R121). -/
def State.cur (s : State) : CtxState :=
  match s.ctx with
  | .main => s.m
  | .isr => s.i

/-- Write `C` whole. -/
def State.setCur (s : State) (c : CtxState) : State :=
  match s.ctx with
  | .main => { s with m := c }
  | .isr => { s with i := c }

/-- `C.pc <- n` (R25). -/
def State.setPc (s : State) (n : Nat) : State := s.setCur { s.cur with pc := n }

/-- `C.q <- q` (R26). -/
def State.setQ (s : State) (q : List Prim) : State := s.setCur { s.cur with q := q }

/-- `C.wait <- n` (R27). -/
def State.setWait (s : State) (n : Nat) : State := s.setCur { s.cur with wait := n }

/-- A conditional branch: `C.pc <- tgt` where the condition holds (R193, R230). -/
def State.branchIf (s : State) (taken : Bool) (tgt : Index) : State :=
  if taken then s.setPc tgt.toNat else s

/-- The program the live context fetches from (R61, R122). -/
def State.program (s : State) : List Word :=
  match s.ctx with
  | .main => s.par.progM
  | .isr => s.par.progI

/-! The lines and the door. -/

/-- Write the data line's drive state (R32). -/
def State.driveData (s : State) (d : DataDrive) : State := { s with data := d }

/-- Write the gate line's drive state (R33). -/
def State.driveGate (s : State) (g : GateDrive) : State := { s with gate := g }

/-- `Door()`: the door level at the current tick, true = 1 = open (R11, R22, R193). -/
def State.door (s : State) : Bool := s.par.inputs.doorAt s.pos.t

/-! The door interrupt and the model faults. -/

/-- TAKING THE INTERRUPT, `deliver(s)` (R264): the interrupt context starts at PROG_I index 0, and the
halt ends. The main context's record, `ie`, `pending`, `arm` and the lines stay. -/
def State.deliver (s : State) : State := { s with ctx := .isr, i := {}, halted := false }

/-- RETURN FROM THE INTERRUPT (R198, R268): the main context goes on as it was; nothing else. -/
def State.returnFromIsr (s : State) : State := s.setCtx .main

/-- `raise Fault(r)` (R261, R262): record the reason, freeze the rest. -/
def State.raise (s : State) (r : Fault) : State := { s with fault := some r }

/-! The phases of a tick (R121). -/

/-- Phase 1: the edge detector latches `pending` and samples the door (R190); z and b start at 0. -/
def State.sampleDoor (s : State) : State :=
  { s with
    pending := s.pending || edge s.par.cfg.doorEdge s.doorPrev s.door
    doorPrev := s.door
    pos := { s.pos with phase := .run, z := 0, b := 0 } }

/-- `exit loop`: the tick is consumed, and the next tick begins with its phase 1. -/
def State.endTick (s : State) : State :=
  { s with pos := { s.pos with t := s.pos.t + 1, phase := .sample } }

/-- `C.wait <- C.wait - 1; exit loop`: context C consumes this tick (R27, R121). -/
def State.spendTick (s : State) : State := (s.setWait (s.cur.wait - 1)).endTick

/-- `b <- b + 1`. -/
def State.countOpportunity (s : State) : State := { s with pos := { s.pos with b := s.pos.b + 1 } }

/-- `z <- z + 1`. -/
def State.countOperation (s : State) : State := { s with pos := { s.pos with z := s.pos.z + 1 } }

/-- `exec_prim` (R125). -/
def execPrim (p : Prim) (s : State) : State :=
  match p with
  | .plvl v => s.driveData (driveOfLevel v)
  | .pwait n => s.setWait (ms s.par.cfg n)

end Sys2Proof.Machine
end

