-- ==== Sys2Proof/Machine/BitEncoder.lean ====
section
/-! DEFINITION. The BitEncoder's operations: LVL and SEND (R150, R151). -/

namespace Sys2Proof.Machine

/-- LVL v (R150): `data <- DriveHigh` or `DriveLow`; exactly the primitive PLVL. -/
def execLvl (v : Level) (s : State) : Answer := .next (execPrim (.plvl v) s)

/-- SEND b (R151): `C.q <- expand_send(b)`. -/
def execSend (b : Byte) (s : State) : Answer := .next (s.setQ (expandSend b))

end Sys2Proof.Machine
end

