-- ==== Sys2Proof/Machine/Common.lean ====
section
/-! DEFINITION. The operations both contexts use: WAIT and JMP (R123, R124). -/

namespace Sys2Proof.Machine

/-- WAIT n (R123): `C.wait <- ms(n)`; `WAIT 0` is the no-op of R89. -/
def execWait (n : Ms) (s : State) : Answer := .next (s.setWait (ms s.par.cfg n))

/-- JMP tgt (R124): `C.pc <- tgt`. -/
def execJmp (tgt : Index) (s : State) : Answer := .next (s.setPc tgt.toNat)

end Sys2Proof.Machine
end

