-- ==== Sys2Proof/Machine/DoorMonitor.lean ====
section
/-! DEFINITION. The DoorMonitor's operations: CLRPEND, BDO, IDIS, ARMSET, IEN and RETI (R192 to
R198). -/

namespace Sys2Proof.Machine

/-- CLRPEND (R192): `pending <- false`. -/
def execClrpend (s : State) : Answer := .next (s.setPending false)

/-- BDO tgt (R193): if the door reads open, `C.pc <- tgt`; the read has no side effect (R65). -/
def execBdo (tgt : Index) (s : State) : Answer := .next (s.branchIf s.door tgt)

/-- IDIS (R194): `ie <- false`. -/
def execIdis (s : State) : Answer := .next (s.setIe false)

/-- ARMSET (R196): `arm <- true`. -/
def execArmset (s : State) : Answer := .next (s.setArm true)

/-- IEN (R197): `ie <- true`. -/
def execIen (s : State) : Answer := .next (s.setIe true)

/-- RETI (R198): `ctx <- Main`. -/
def execReti (s : State) : Answer := .next s.returnFromIsr

end Sys2Proof.Machine
end

