-- ==== Sys2Proof/Machine/Injection.lean ====
section
/-! DEFINITION. The InjectionController's operations: BNA, MODE, ARMCLR and HALT (R230 to R234). -/

namespace Sys2Proof.Machine

/-- BNA tgt (R230): if not armed, `C.pc <- tgt`. -/
def execBna (tgt : Index) (s : State) : Answer := .next (s.branchIf (!s.arm) tgt)

/-- The data half of MODE: the line changes only where the mask names it (R231). -/
def modeData (named : Bool) (md : LineMode) (s : State) : State :=
  if named then s.driveData (dataOfMode md) else s

/-- The gate half of MODE (R231). -/
def modeGate (named : Bool) (md : LineMode) (s : State) : State :=
  if named then s.driveGate (gateOfMode md) else s

/-- MODE lines, m (R231): both lines in the same operation where both are named (D16). -/
def execMode (data gate : Bool) (md : LineMode) (s : State) : Answer :=
  .next (modeGate gate md (modeData data md s))

/-- ARMCLR (R233): `arm <- false`. -/
def execArmclr (s : State) : Answer := .next (s.setArm false)

/-- HALT (R234): `halted <- true`; the pc already holds HALT's index + 1 (R122). -/
def execHalt (s : State) : Answer := .next (s.setHalted true)

end Sys2Proof.Machine
end

