-- ==== Sys2Proof/Machine/Sequencer.lean ====
section
/-! DEFINITION. The StringSequencer's operation: CYCLE (R171). -/

namespace Sys2Proof.Machine

/-- CYCLE p, r (R171): `C.q <- expand_cycle(p, r)`. -/
def execCycle (p : Profile) (r : BitVec 9) (s : State) : Answer :=
  .next (s.setQ (expandCycle s.par.cfg p r.toNat))

end Sys2Proof.Machine
end

