-- ==== Sys2Proof/Machine/Dispatch.lean ====
section
/-! DEFINITION. `execute(op)` of R122: one arm per operation of the opcode table. -/

namespace Sys2Proof.Machine

def exec (i : Instr) (s : State) : Host.Outcome State Fault Refusal :=
  match i with
  | .wait n => Sys2Proof.Machine.execWait n s
  | .lvl v => Sys2Proof.Machine.execLvl v s
  | .mode d g m => Sys2Proof.Machine.execMode d g m s
  | .send b => Sys2Proof.Machine.execSend b s
  | .cycle p r => Sys2Proof.Machine.execCycle p r s
  | .bna tgt => Sys2Proof.Machine.execBna tgt s
  | .jmp tgt => Sys2Proof.Machine.execJmp tgt s
  | .armset => Sys2Proof.Machine.execArmset s
  | .armclr => Sys2Proof.Machine.execArmclr s
  | .halt => Sys2Proof.Machine.execHalt s
  | .clrpend => Sys2Proof.Machine.execClrpend s
  | .idis => Sys2Proof.Machine.execIdis s
  | .ien => Sys2Proof.Machine.execIen s
  | .bdo tgt => Sys2Proof.Machine.execBdo tgt s
  | .reti => Sys2Proof.Machine.execReti s

end Sys2Proof.Machine
end

