-- ==== Sys2Proof/Machine/Run.lean ====
section
/-! DEFINITION. The run loop of R121 and the fetch of R122, and where a word is placed so that the
next step runs it. -/

namespace Sys2Proof.Machine

/-- `fetch_exec(C)` (R122): past the end, PcOutOfRange with the pc as it was; else the pc advances by
1 and the operation runs. A word that does not decode cannot be met, since the programs passed R95;
the model refuses it by WF1's name. -/
def fetchExec (s : State) : Answer :=
  match s.program[s.cur.pc]? with
  | none => .next (s.raise .pcOutOfRange)
  | some w =>
    match decode w with
    | .op i => exec i (s.setPc (s.cur.pc + 1))
    | .invalid _ => .refused (.programNotAdmitted .reservedWord)

/-- The main context idles in the halt (R121, R234). -/
def State.idles (s : State) : Bool :=
  match s.ctx with
  | .main => s.halted
  | .isr => false

/-- One zero-time operation or primitive: from the queue if there is one, else fetched (R26, R121). -/
def runOne (s : State) : Answer :=
  match s.cur.q with
  | p :: ps => .next (execPrim p (s.setQ ps))
  | [] => fetchExec s

/-- The loop body of R121 after its delivery check. -/
def loopBody (s : State) : Answer :=
  if 0 < s.cur.wait then .next s.spendTick
  else if s.idles then .next s.endTick
  else if s.par.cfg.maxZt < s.pos.z + 1 then .next (s.raise .zeroTimeLoop)
  else runOne s.countOperation

/-- One pass of R121's run loop, cut after a delivery: at an opportunity that delivers, the step is
the delivery; the interrupt context's first operation is the next step (log 1). -/
def loopStep (s : State) : Answer :=
  if s.opportunity then
    if s.delivers then .next s.countOpportunity.deliver else loopBody s.countOpportunity
  else loopBody s

/-- One step of the block: a fault is absorbing (R35), a run that is not admitted is refused (R95),
and otherwise phase 1 or the next pass of phase 2 of R121. -/
def blockStep (s : State) : Answer :=
  if s.fault.isSome then .next s
  else
    match s.par.refusal with
    | some r => .refused r
    | none =>
      match s.pos.phase with
      | .sample => .next s.sampleDoor
      | .run => loopStep s

/-! Placing one word where the next step fetches (the host's reading of single instructions). -/

/-- The context a word is placed in: the live one if R94 admits the operation there, else the other. -/
def placeContext (w : Word) (c : CtxId) : CtxId :=
  match decode w with
  | .op i =>
    match c, i.admittedIn .main, i.admittedIn .isr with
    | .main, false, true => .isr
    | .isr, true, false => .main
    | c, _, _ => c
  | .invalid _ => c

/-- The length a program needs for the word's own target to be in range (R93). -/
def lengthFor (w : Word) : Nat :=
  match decode w with
  | .op i => ((i.target.map (fun t => t.toNat + 1)).getD 0)
  | .invalid _ => 0

/-- The program with the word at index `pc`, filled up with no-ops (R89) to the length it needs. -/
def placeWord (w : Word) (pc : Nat) (p : List Word) : List Word :=
  let need := max (pc + 1) (lengthFor w)
  (p ++ List.replicate (need - p.length) (encode Instr.pseudoNop)).set pc w

/-- PROG_I keeps a RETI (WF5): one is put at its end if the placed word took the last one's place. -/
def keepReti (p : List Word) : List Word :=
  if p.any (fun w => decide (w = encode .reti)) then p else p ++ [encode .reti]

/-- The state's parameters with the word placed in context `c` at that context's pc. -/
def State.placeIn (s : State) (c : CtxId) (w : Word) : Params :=
  match c with
  | .main => { s.par with progM := placeWord w s.m.pc s.par.progM }
  | .isr => { s.par with progI := keepReti (placeWord w s.i.pc s.par.progI) }

/-- Nothing comes before the main context's fetch: no delivery, no halt. -/
def State.undisturbed (s : State) (c : CtxId) : State :=
  match c with
  | .main => (s.setPending false).setHalted false
  | .isr => s

/-- The state in which the next step fetches in context `c`: phase 2 of a tick, nothing queued, no
wait, no fault, and room under MAX_ZT. -/
def State.readyToFetch (s : State) (c : CtxId) : State :=
  let s := { s.undisturbed c with
    ctx := c, fault := none, pos := { s.pos with phase := .run, z := 0 } }
  (s.setQ []).setWait 0

/-- `State.withFetchWord`'s work: the word placed, and the state ready to fetch it. -/
def State.placeFetchWord (s : State) (nbits w : Nat) : State :=
  let word := BitVec.ofNat 16 (w % 2 ^ nbits)
  let c := placeContext word s.ctx
  { s.readyToFetch c with par := s.placeIn c word }

end Sys2Proof.Machine
end

