-- ==== Sys2Proof/Machine/Step.lean ====
section
/-! DEFINITION. The block's step, and a state in which it runs a given word next. -/

namespace Sys2Proof.Machine

/-- One step (R121; log 1): phase 1 of a tick, one delivery, or one pass of the run loop. -/
def step (s : State) : Host.Outcome State Fault Refusal := blockStep s

/-- `s` with the word `w` placed where `step` fetches next, in the context R94 admits it in, and the
state in phase 2 of a tick with nothing before the fetch (log 13). -/
def State.withFetchWord (s : State) (nbits w : Nat) : State := s.placeFetchWord nbits w

end Sys2Proof.Machine
end

