-- ==== Sys2Proof/Machine/Frame.lean ====
section
/-! DEFINITION. The wire frame of a character (R80, R81), and what a list of primitives sends: its
levels, its characters (R173) and its duration (R127). -/

namespace Sys2Proof.Machine

/-- The 11 slots of a character's frame, slot 0 first (R80). -/
def frame (b : Byte) : List Level :=
  [.high] ++ (List.range nData).map (fun j => levelOfDataBit (b.getLsbD j)) ++ [.low, .low]

/-- The payload bit a slot's level carries: Low is 1, High is 0 (R81). -/
def payloadBit : Level → Bool
  | .low => true
  | .high => false

/-- A byte from its bits, LSB first (R81, R154). -/
def byteOfBits : List Bool → Byte
  | [] => 0
  | b :: bs => (byteOfBits bs <<< 1) ||| (BitVec.ofBool b).zeroExtend 8

/-- The byte a frame carries: slots 1..8 (R81). -/
def frameByte (f : List Level) : Byte := byteOfBits (((f.drop 1).take nData).map payloadBit)

/-- The levels a list of primitives drives, in order (R125). -/
def levelsOf : List Prim → List Level
  | [] => []
  | .plvl v :: ps => v :: levelsOf ps
  | .pwait _ :: ps => levelsOf ps

/-- The characters a sequence of driven levels carries: ten levels a character (start, eight data
bits, end marker; R151). -/
def bytesOfLevels : List Level → List Byte
  | _ :: b0 :: b1 :: b2 :: b3 :: b4 :: b5 :: b6 :: b7 :: _ :: rest =>
    byteOfBits ([b0, b1, b2, b3, b4, b5, b6, b7].map payloadBit) :: bytesOfLevels rest
  | _ => []

/-- The characters a list of primitives sends (R173). -/
def sentBytes (q : List Prim) : List Byte := bytesOfLevels (levelsOf q)

/-- The duration of a list of primitives in ms: the sum of its waits (R127). -/
def durationMs : List Prim → Nat
  | [] => 0
  | .plvl _ :: ps => durationMs ps
  | .pwait n :: ps => n.toNat + durationMs ps

/-- The characters of one group (R171). -/
def groupBytes (c : Config) (p : Profile) (k : Nat) : List Byte :=
  [code c .S, code c .C, code c .E, sel c p k]

/-- The character stream of a CYCLE (R173): 16 characters a repetition. -/
def cycleBytes (c : Config) (p : Profile) (r : Nat) : List Byte :=
  (List.replicate r
    (groupBytes c p 4 ++ groupBytes c p 3 ++ groupBytes c p 2 ++ groupBytes c p 1)).flatten

end Sys2Proof.Machine
end

