-- ==== Sys2Proof/Machine/Views.lean ====
section
/-! DEFINITION. The derived state-machine views of the units: encoder (R156), sequencer (R176), door
monitor (R202) and controller (R236). They read the state and add none. `none` is a state the spec
calls transient or gives no view of (log 23). -/

namespace Sys2Proof.Machine

/-- `enc` (R156). -/
inductive EncView where
  | idle
  | start
  | data (j : Fin 8)
  | endMark
  deriving DecidableEq, Repr

/-- The slot in progress from how many of a SEND's 20 primitives are left (R156). -/
def encOfRemaining : Nat → Option EncView
  | 18 => some .start
  | 16 => some (.data 0)
  | 14 => some (.data 1)
  | 12 => some (.data 2)
  | 10 => some (.data 3)
  | 8 => some (.data 4)
  | 6 => some (.data 5)
  | 4 => some (.data 6)
  | 2 => some (.data 7)
  | 0 => some .endMark
  | _ => none

/-- The main context's last fetched operation while its wait or its queue lasts: the one before the
pc (R25, R26). -/
def State.inFlight (s : State) : Option Instr :=
  match s.m.pc with
  | 0 => none
  | pc + 1 => (s.par.progM[pc]?).bind (fun w => (decode w).toOption)

/-- Primitives of one group: four SENDs and the trailer (R171). -/
def groupLength : Nat := 81

/-- The encoder view inside a CYCLE with `left` primitives queued; the trailer is `idle` only where
nothing is queued behind it (R156). -/
def encInCycle (left : Nat) : Option EncView :=
  match left % groupLength with
  | 0 => if left = 0 then some .idle else none
  | x + 1 => encOfRemaining (x % 20)

/-- A primitive of a SEND: every primitive but a group's trailer (R151, R171). -/
def Prim.ofSend : Prim → Bool
  | .plvl _ => true
  | .pwait n => decide (n ≠ tTrail)

/-- The encoder view (R156). With no wait in progress it is `idle` exactly where no SEND primitive is
queued; between two slots it is none of the rule's states (log 23). -/
def State.encoder (s : State) : Option EncView :=
  if s.m.wait = 0 then (if s.m.q.any Prim.ofSend then none else some .idle)
  else
    match s.inFlight with
    | some (.send _) => encOfRemaining s.m.q.length
    | some (.cycle _ _) => encInCycle s.m.q.length
    | _ => some .idle

/-- The sequencer's counters (R176): `c` is `none` in the trailer. -/
structure SeqView where
  rep : Nat
  k : Nat
  c : Option Nat
  deriving DecidableEq, Repr

/-- The counters from a primitive's index within the CYCLE (R174, R176). -/
def seqOfIndex (x : Nat) : SeqView :=
  { rep := x / groupLength / nInner + 1
    k := nInner - x / groupLength % nInner
    c := if x % groupLength < 80 then some (x % groupLength / 20) else none }

/-- The sequencer view (R176): none unless a CYCLE is in flight. Between two primitives the next one
counts: a character or a trailer has ended when its last wait has. -/
def State.sequencer (s : State) : Option SeqView :=
  match s.inFlight with
  | some (.cycle _ r) =>
    let next := nInner * groupLength * r.toNat - s.m.q.length
    if 0 < s.m.wait then some (seqOfIndex (next - 1))
    else if s.m.q = [] then none
    else some (seqOfIndex next)
  | _ => none

/-- DoorMonitor's states (R202). -/
inductive DoorView where
  | idle
  | debouncing
  deriving DecidableEq, Repr

/-- The DoorMonitor view (R202). -/
def State.doorMonitor (s : State) : DoorView :=
  match s.ctx with
  | .isr => if 0 < s.i.wait then .debouncing else .idle
  | .main => .idle

/-- InjectionController's phases (R236). -/
inductive ControllerView where
  | warmA
  | warmB
  | warmC
  | transmit
  | idle
  deriving DecidableEq, Repr

/-- The controller phase view of the fixed PROG_M (R236). -/
def State.controller (s : State) : Option ControllerView :=
  match s.m.pc with
  | 2 => if 0 < s.m.wait then some .warmA else none
  | 4 => if 0 < s.m.wait then some .warmB else none
  | 6 => if 0 < s.m.wait then some .warmC else none
  | 7 => if s.m.q ≠ [] ∨ 0 < s.m.wait then some .transmit else none
  | 10 => if s.m.q = [] ∧ s.m.wait = 0 then some .idle else none
  | _ => none

end Sys2Proof.Machine
end

