-- ==== Sys2Proof/Machine/Tick.lean ====
section
/-! DEFINITION. The tick of R120 and R121 in the spec's own shape: phase 1, then whole passes of the run
loop until the tick is consumed. `step` cuts the same function into single events (log 1). -/

namespace Sys2Proof.Machine

/-- The delivery check at the head of the loop (R121, R265). -/
def deliveryCheck (s : State) : State :=
  if s.opportunity then
    if s.delivers then s.countOpportunity.deliver else s.countOpportunity
  else s

/-- One whole pass of the loop of R121: the delivery check, then the body. -/
def tickPass (s : State) : Answer := loopBody (deliveryCheck s)

/-- The loop has been left: the tick is consumed, or a fault is recorded. -/
def State.leftLoop (s : State) : Bool :=
  match s.pos.phase with
  | .sample => true
  | .run => s.fault.isSome

/-- The loop of R121. Every pass that does not leave it counts one zero-time operation, so
MAX_ZT + 1 passes are enough. -/
def tickLoop : Nat → State → Answer
  | 0, s => .next s
  | n + 1, s =>
    match tickPass s with
    | .next s' => if s'.leftLoop then .next s' else tickLoop n s'
    | .fault r => .fault r
    | .refused r => .refused r

/-- `tick(s, t, draws)` (R120, R121), from the start of a tick. -/
def tick (s : State) : Answer :=
  if s.fault.isSome then .next s
  else
    match s.par.refusal with
    | some r => .refused r
    | none => tickLoop (s.par.cfg.maxZt + 1) s.sampleDoor

/-- `n` ticks in a row (R120: a run is the sequence of states). -/
def ticks : Nat → State → Answer
  | 0, s => .next s
  | n + 1, s =>
    match tick s with
    | .next s' => ticks n s'
    | .fault r => .fault r
    | .refused r => .refused r

/-- The state is at the start of a tick: phase 1 is next. -/
def State.atTickStart (s : State) : Bool :=
  match s.pos.phase with
  | .sample => true
  | .run => false

end Sys2Proof.Machine
end

