-- ==== Sys2Proof/Machine/Observe.lean ====
section
/-! DEFINITION. What is observed of a run (R34, R41, R262) and quiescence (R42). -/

namespace Sys2Proof.Machine

/-- The level the data line shows: HiZ shows none that the block determines (R34). -/
def levelOfData : DataDrive → Option Level
  | .hiZ => none
  | .driveLow => some .low
  | .driveHigh => some .high

/-- The level the gate line shows (R34). -/
def levelOfGate : GateDrive → Option Level
  | .hiZ => none
  | .driveLow => some .low

/-- `out(t) = (data, gate, arm)` (R41). -/
structure Obs where
  data : DataDrive
  gate : GateDrive
  arm : Bool
  deriving DecidableEq, Repr

/-- One entry of the trace: `out(t)`, or the fault in its place (R41, R262). -/
inductive Report where
  | out (o : Obs)
  | fault (r : Fault)
  deriving DecidableEq, Repr

/-- What is observed at the end of a tick (R41, R262). -/
def State.report (s : State) : Report :=
  match s.fault with
  | some r => .fault r
  | none => .out { data := s.data, gate := s.gate, arm := s.arm }

/-- The observation of the next `n` ticks (R41). A refused run has none. -/
def trace : Nat → State → List Report
  | 0, _ => []
  | n + 1, s =>
    match tick s with
    | .next s' => s'.report :: trace n s'
    | .fault _ => []
    | .refused _ => []

/-- The quiescent states (R42). -/
def State.quiescent (s : State) : Bool :=
  s.halted && !s.arm && !s.pending && s.ie && decide (s.ctx = .main) && s.fault.isNone

end Sys2Proof.Machine
end

