-- ==== Sys2Proof/Safety.lean ====
section
/-! DEFINITION. What the statements mean by a sound state, a state of the fixed block, a fixed block that
cannot fault, a stretch of ticks in which no interrupt is delivered, and the waveform of a SEND. -/

namespace Sys2Proof.Machine

/-- What every step keeps, whatever the programs: the ranges of R9 and R20, and what R26, R27 and
R264 say of the interrupt context and the halt. -/
structure RunInv (s : State) : Prop where
  /-- R25: the pc holds 0..len, never beyond. -/
  mPc : s.m.pc ≤ s.par.progM.length
  iPc : s.i.pc ≤ s.par.progI.length
  /-- R9, R20: a wait counter holds 0..4095·TPM. -/
  mWait : s.m.wait ≤ 4095 * s.par.cfg.tpm
  iWait : s.i.wait ≤ 4095 * s.par.cfg.tpm
  /-- The interrupt context has no composite operation (R94), so its queue stays empty. -/
  iQueue : s.i.q = []
  /-- R264: a delivery ends the halt. -/
  isrAwake : s.ctx = .isr → s.halted = false
  /-- R234: a halted main context has nothing queued and waits for no tick. -/
  haltIdle : s.halted = true → s.m.q = [] ∧ s.m.wait = 0
  /-- R121: the zero-time count stays within MAX_ZT. -/
  zBound : s.pos.z ≤ s.par.cfg.maxZt

/-- The invariant of the block as it is built: its control is the two fixed programs of R96. -/
structure BlockInv (s : State) : Prop where
  /-- R96: the block's control is these two programs. -/
  progM : s.par.progM = fixedMain s.par.cfg
  progI : s.par.progI = fixedIsr
  /-- R97: neither pc leaves its program. -/
  mPc : s.m.pc ≤ 10
  iPc : s.ctx = .isr → s.i.pc ≤ 7
  noPcFault : s.fault ≠ some .pcOutOfRange
  /-- Only CYCLE (index 6) queues primitives. -/
  mQueue : s.m.q ≠ [] → s.m.pc = 7
  iQueue : s.i.q = []
  /-- The halt is at index 9. -/
  halt : s.halted = true → s.m.pc = 10
  isrAwake : s.ctx = .isr → s.halted = false
  /-- R310: delivery is enabled whenever the main context runs, and off from IDIS (index 2) to IEN
  (index 6) of the interrupt program. -/
  ieMain : s.ctx = .main → s.ie = true
  ieIsr : s.ctx = .isr → (s.ie = true ↔ s.i.pc ≤ 2 ∨ s.i.pc = 7)
  /-- R232, R237: the gate line is low from step b (index 4) to step e (index 7), else HiZ. -/
  gate : s.gate = .driveLow ↔ 5 ≤ s.m.pc ∧ s.m.pc ≤ 7
  /-- R237: the data line is out of HiZ from step a (index 2) to step e (index 7). -/
  data : s.data = .hiZ ↔ s.m.pc ≤ 2 ∨ 8 ≤ s.m.pc
  /-- R238: a block that warms up or transmits is armed. -/
  armed : 1 ≤ s.m.pc ∧ s.m.pc ≤ 8 → s.arm = true
  /-- Only WAIT (index 3) makes the interrupt context consume a tick (R195). -/
  isrTick : s.ctx = .isr → s.i.pc ≠ 4 → s.i.wait = 0 ∧ s.pos.phase = .run
  /-- R193, R199: past the first BDO the door reads closed. -/
  entryClosed : s.ctx = .isr → s.i.pc = 2 ∨ s.i.pc = 3 → s.door = false
  /-- R195: during the window, the delivery tick te lies ms(50) minus the ticks still owed back. -/
  window : s.ctx = .isr → s.i.pc = 4 →
    ∃ te, te + ms s.par.cfg tDeb = s.pos.t + s.i.wait ∧ s.par.inputs.doorAt te = false
  /-- R200: ARMSET is reached with the door closed at te and at te + ms(50). -/
  confirmed : s.ctx = .isr → s.i.pc = 5 →
    s.door = false ∧
      ∃ te, te + ms s.par.cfg tDeb = s.pos.t ∧ s.par.inputs.doorAt te = false

/-- Every PLVL of the queue has a PWAIT right behind it, and every PWAIT waits (R125, R151, R171). -/
def queueWaits : List Prim → Bool
  | [] => true
  | .pwait n :: ps => decide (n ≠ 0) && queueWaits ps
  | .plvl _ :: ps => (match ps with
      | .pwait _ :: _ => true
      | _ => false) && queueWaits ps

/-- How many primitives such a queue runs before its context waits. -/
def primsUntilWait : List Prim → Nat
  | [] => 0
  | .pwait _ :: _ => 1
  | .plvl _ :: _ => 2

/-- How many zero-time operations the fixed PROG_M runs from here before the main context consumes a
tick, at most (R312). -/
def State.mainLeft (s : State) : Nat :=
  if 0 < s.m.wait ∨ s.halted = true then 0
  else if s.m.q ≠ [] then primsUntilWait s.m.q
  else
    match s.m.pc with
    | 0 => 2
    | 1 => 1
    | 2 => 2
    | 3 => 1
    | 4 => 2
    | 5 => 1
    | 8 => 2
    | 9 => 1
    | _ => 3

/-- The same of the fixed PROG_I, up to its wait or its RETI (R312). -/
def State.isrLeft (s : State) : Nat :=
  match s.i.pc with
  | 0 => 4
  | 1 => 3
  | 2 => 2
  | 3 => 1
  | 4 => 4
  | 5 => 3
  | 6 => 2
  | _ => 1

/-- A bound on the zero-time operations still to come in this tick: a pending interrupt can add the 4
of its own and the 3 of a main context it wakes, and index 0 of PROG_I is about to clear `pending`
(R312). -/
def State.zeroTimeLeft (s : State) : Nat :=
  match s.ctx with
  | .main => s.mainLeft + (if s.pending = true then 7 else 0)
  | .isr =>
    if 0 < s.i.wait then 0
    else s.isrLeft + s.mainLeft + (if s.pending = true ∧ s.i.pc ≠ 0 then 7 else 0)

/-- The fixed block in a configuration of R8's ranges, with no fault and no way to one (R97, R312). The
bound 14 is that of `zeroTimeLeft`; R312 counts 12 and needs no more than 32. -/
structure FaultFreeInv (s : State) : Prop where
  block : BlockInv s
  config : configInRange s.par.cfg = true
  noFault : s.fault = none
  queue : queueWaits s.m.q = true
  zeroTime : s.pos.phase = .run → s.pos.z + s.zeroTimeLeft ≤ 14

/-- The door level one tick before `t + u`, as the edge detector holds it at the start of tick
`t + u` (R190). -/
def State.doorBefore (s : State) : Nat → Bool
  | 0 => s.doorPrev
  | u + 1 => s.par.inputs.doorAt (s.pos.t + u)

/-- No configured edge in the next `n` ticks. -/
def State.NoEdge (s : State) (n : Nat) : Prop :=
  ∀ u, u < n →
    edge s.par.cfg.doorEdge (s.doorBefore u) (s.par.inputs.doorAt (s.pos.t + u)) = false

/-- No interrupt can be delivered in the next `n` ticks: delivery is disabled, or nothing is pending
and no edge comes (R264, R265). -/
def State.NoDelivery (s : State) (n : Nat) : Prop :=
  s.ie = false ∨ (s.pending = false ∧ s.NoEdge n)

/-- The data line x ticks after the first primitive of a SEND of `b`, with no delivery (R152). -/
def sendLevel (c : Config) (b : Byte) (x : Nat) : DataDrive :=
  if x < 4 * c.tpm then .driveHigh
  else if x < 36 * c.tpm then
    (if b.getLsbD ((x - 4 * c.tpm) / (4 * c.tpm)) = true then .driveLow else .driveHigh)
  else .driveLow

/-- The current tick is R152's t0 of a SEND of `b` after which the main context's record is `m`: the
tick ends at a state `e`, tick t0 + x leaves the data line at the level of R152 for every x below
ms(44), and at the start of tick t0 + ms(44) the main context goes on from `m`, with the gate line and
ArmState as they were. -/
def State.SendsByte (s : State) (b : Byte) (m : CtxState) : Prop :=
  ∃ n e, Host.Core.run Sys2Proof.core n s = .next e ∧ e.pos.phase = .sample ∧
    e.pos.t = s.pos.t + 1 ∧
    (∀ x, x < 44 * s.par.cfg.tpm →
      ∃ t, ticks x e = .next t ∧ t.fault = none ∧ t.pos.phase = .sample ∧
        t.pos.t = s.pos.t + x + 1 ∧ t.data = sendLevel s.par.cfg b x) ∧
    ∃ t, ticks (44 * s.par.cfg.tpm - 1) e = .next t ∧ t.ctx = .main ∧ t.halted = false ∧
      t.m = m ∧ t.gate = s.gate ∧ t.arm = s.arm

/-- The interrupt program's state x ticks into the debounce window of a delivery in tick s.pos.t: the
main context, the halt, both lines and ArmState as at `s`, delivery off, and `pending` set exactly by
an edge of the window so far (R195, R199, R201). -/
structure InWindow (s t : State) (x : Nat) : Prop where
  phase : t.pos.phase = .sample
  tick : t.pos.t = s.pos.t + x
  ctx : t.ctx = .isr
  ie : t.ie = false
  i : t.i = { pc := 4, q := [], wait := ms s.par.cfg tDeb - x }
  pending : t.pending = true ↔ ¬ s.endTick.NoEdge (x - 1)
  arm : t.arm = s.arm
  m : t.m = s.m
  halted : t.halted = s.halted
  data : t.data = s.data
  gate : t.gate = s.gate
  fault : t.fault = none

/-- The interrupt program has returned in the re-sample tick of a delivery in tick s.pos.t: delivery is
on, ArmState is raised exactly if the door reads closed, the main context, the halt and both lines are
as at `s`, and `pending` is set exactly by an edge after the delivery tick (R199, R201). -/
structure WindowOver (s t : State) : Prop where
  phase : t.pos.phase = .run
  tick : t.pos.t = s.pos.t + ms s.par.cfg tDeb
  ctx : t.ctx = .main
  ie : t.ie = true
  iPc : t.i.pc = 8
  pending : t.pending = true ↔ ¬ s.endTick.NoEdge (ms s.par.cfg tDeb)
  arm : t.arm = (s.arm || !s.par.inputs.doorAt (s.pos.t + ms s.par.cfg tDeb))
  m : t.m = s.m
  halted : t.halted = s.halted
  data : t.data = s.data
  gate : t.gate = s.gate
  fault : t.fault = none

end Sys2Proof.Machine
end

