-- ==== Sys2Proof/Certificates/Slice0/Obligations.lean ====
section
/-! DEFINITION. The statements for the provers. Statements about one `step` rest on the model's cut of
R121's tick into steps and on its `pos` fields (DESIGN CHOICE, logs 1 and 2). -/

open Sys2Proof Sys2Proof.Machine

/-! Encoding -/

/-- R83, R85: words written out from the table, one of each family and the reserved ones of
95_test_vectors.md 2.1. -/
def Obligations.DecodedWordsOfTheTable : Prop :=
  decode 0x0032 = .op (.wait 50) ∧ decode 0x6000 = .op (.jmp 0) ∧
  decode 0x1001 = .op (.lvl .high) ∧ decode 0x3053 = .op (.send 0x53) ∧
  decode 0x40F0 = .op (.cycle .all 30) ∧ decode 0x4FFC = .op (.cycle .debug 511) ∧
  decode 0xD007 = .op (.bdo 7) ∧ decode 0xA000 = .op .clrpend ∧ decode 0xE000 = .op .reti ∧
  decode 0x5009 = .op (.bna 9) ∧ decode 0x2005 = .op (.mode true false .driveLow) ∧
  decode 0x9000 = .op .halt ∧
  decode 0x1002 = .invalid .reservedBits ∧ decode 0x2004 = .invalid .noLine ∧
  decode 0x400D = .invalid .profile ∧ decode 0x4001 = .invalid .zeroRepetitions ∧
  decode 0xFFFF = .invalid .opcode

/-- R83, R84, R87: the word of a well-formed operation decodes to that operation, with every operand
at every value the encoding admits. -/
def Obligations.DecodeOfEncode : Prop :=
  ∀ i : Instr, i.wf = true → decode (encode i) = .op i

/-- R83, R87, R90: a word that decodes is the word of the operation it decodes to, and that operation
is well formed: no two words mean one operation. -/
def Obligations.EncodeOfDecode : Prop :=
  ∀ (w : Word) (i : Instr), decode w = .op i → encode i = w ∧ i.wf = true

/-- R87, R88: decoding answers `Invalid` exactly for the reserved encodings. -/
def Obligations.InvalidExactlyWhenReserved : Prop :=
  ∀ w : Word,
    (∃ why, decode w = .invalid why) ↔
      w.extractLsb' 12 4 = 0xF ∨
      (w.extractLsb' 12 4 = 0x1 ∧ w.extractLsb' 1 11 ≠ 0) ∨
      (w.extractLsb' 12 4 = 0x2 ∧ (w.extractLsb' 3 9 ≠ 0 ∨ w.extractLsb' 0 2 = 0)) ∨
      (w.extractLsb' 12 4 = 0x3 ∧ w.extractLsb' 8 4 ≠ 0) ∨
      (w.extractLsb' 12 4 = 0x4 ∧ (5 ≤ (w.extractLsb' 0 3).toNat ∨ w.extractLsb' 3 9 = 0)) ∨
      ((w.extractLsb' 12 4 = 0x7 ∨ w.extractLsb' 12 4 = 0x8 ∨ w.extractLsb' 12 4 = 0x9 ∨
          w.extractLsb' 12 4 = 0xA ∨ w.extractLsb' 12 4 = 0xB ∨ w.extractLsb' 12 4 = 0xC ∨
          w.extractLsb' 12 4 = 0xE) ∧ w.extractLsb' 0 12 ≠ 0)

/-! Operations: effect, frame and completion in one equation (the state not named stays) -/

/-- R123: WAIT loads the executing context's wait counter with ms(n) ticks and writes nothing else;
it is admitted in both programs. -/
def Obligations.WaitLoadsCounter : Prop :=
  ∀ (n : Ms) (s : State),
    Instr.admittedIn .main (.wait n) = true ∧ Instr.admittedIn .isr (.wait n) = true ∧
    (s.ctx = .main →
      exec (.wait n) s = .next { s with m := { s.m with wait := n.toNat * s.par.cfg.tpm } }) ∧
    (s.ctx = .isr →
      exec (.wait n) s = .next { s with i := { s.i with wait := n.toNat * s.par.cfg.tpm } })

/-- R124: JMP writes the executing context's pc and nothing else. -/
def Obligations.JmpWritesPc : Prop :=
  ∀ (tgt : Index) (s : State),
    Instr.admittedIn .main (.jmp tgt) = true ∧ Instr.admittedIn .isr (.jmp tgt) = true ∧
    (s.ctx = .main → exec (.jmp tgt) s = .next { s with m := { s.m with pc := tgt.toNat } }) ∧
    (s.ctx = .isr → exec (.jmp tgt) s = .next { s with i := { s.i with pc := tgt.toNat } })

/-- R150: LVL drives the data line, out of HiZ too, as PLVL does, and never the gate line; its words;
PROG_M only. -/
def Obligations.LvlDrivesData : Prop :=
  decode 0x1001 = .op (.lvl .high) ∧ decode 0x1000 = .op (.lvl .low) ∧
  ∀ (v : Level) (s : State),
    Instr.admittedIn .main (.lvl v) = true ∧ Instr.admittedIn .isr (.lvl v) = false ∧
    exec (.lvl .high) s = .next { s with data := .driveHigh } ∧
    exec (.lvl .low) s = .next { s with data := .driveLow } ∧
    exec (.lvl v) s = .next (execPrim (.plvl v) s)

/-- R151: SEND queues start bit, eight inverted data bits LSB first, and the end marker. -/
def Obligations.SendQueuesFrame : Prop :=
  ∀ (b : Byte) (s : State),
    let h := fun j => if b.getLsbD j = true then Level.low else Level.high
    let q : List Prim :=
      [.plvl .high, .pwait 4, .plvl (h 0), .pwait 4, .plvl (h 1), .pwait 4, .plvl (h 2), .pwait 4,
       .plvl (h 3), .pwait 4, .plvl (h 4), .pwait 4, .plvl (h 5), .pwait 4, .plvl (h 6), .pwait 4,
       .plvl (h 7), .pwait 4, .plvl .low, .pwait 8]
    Instr.admittedIn .main (.send b) = true ∧ Instr.admittedIn .isr (.send b) = false ∧
    (s.ctx = .main → exec (.send b) s = .next { s with m := { s.m with q := q } }) ∧
    (s.ctx = .isr → exec (.send b) s = .next { s with i := { s.i with q := q } })

/-- R171: CYCLE queues r times the groups of k = 4, 3, 2, 1, each of S, C, E, the selector and a 72 ms
trailer. -/
def Obligations.CycleQueuesGroups : Prop :=
  ∀ (p : Profile) (r : BitVec 9) (s : State),
    let c := s.par.cfg
    let g := fun k =>
      expandSend c.codes.s ++ expandSend c.codes.c ++ expandSend c.codes.e ++ expandSend (sel c p k)
        ++ [Prim.pwait 72]
    let q := (List.replicate r.toNat (g 4 ++ g 3 ++ g 2 ++ g 1)).flatten
    Instr.admittedIn .main (.cycle p r) = true ∧ Instr.admittedIn .isr (.cycle p r) = false ∧
    (s.ctx = .main → exec (.cycle p r) s = .next { s with m := { s.m with q := q } }) ∧
    (s.ctx = .isr → exec (.cycle p r) s = .next { s with i := { s.i with q := q } })

/-- R170: the selector function. -/
def Obligations.SelectorFunction : Prop :=
  ∀ (c : Config) (k : Nat), k ∈ [4, 3, 2, 1] →
    sel c .all 4 = code c .A ∧ sel c .all 3 = code c .E ∧ sel c .all 2 = code c .I ∧
    sel c .all 1 = code c .W ∧
    sel c .na k = code c c.sels.na ∧ sel c .eur k = code c c.sels.eur ∧
    sel c .jpn k = code c c.sels.jpn ∧ sel c .debug k = code c c.sels.debug

/-- R230: BNA branches exactly when not armed, and writes nothing but the pc. -/
def Obligations.BnaBranchesWhenDisarmed : Prop :=
  ∀ (tgt : Index) (s : State),
    Instr.admittedIn .main (.bna tgt) = true ∧ Instr.admittedIn .isr (.bna tgt) = false ∧
    (s.arm = true → exec (.bna tgt) s = .next s) ∧
    (s.arm = false → s.ctx = .main →
      exec (.bna tgt) s = .next { s with m := { s.m with pc := tgt.toNat } }) ∧
    (s.arm = false → s.ctx = .isr →
      exec (.bna tgt) s = .next { s with i := { s.i with pc := tgt.toNat } })

/-- R231: MODE puts exactly the lines it names into its mode, both at once where both are named, and
makes no line DriveHigh; its words; PROG_M only. -/
def Obligations.ModeSetsNamedLines : Prop :=
  decode 0x2001 = .op (.mode true false .hiz) ∧ decode 0x2002 = .op (.mode false true .hiz) ∧
  decode 0x2003 = .op (.mode true true .hiz) ∧ decode 0x2005 = .op (.mode true false .driveLow) ∧
  decode 0x2006 = .op (.mode false true .driveLow) ∧
  decode 0x2007 = .op (.mode true true .driveLow) ∧
  ∀ (d g : Bool) (m : LineMode) (s : State),
    Instr.admittedIn .main (.mode d g m) = true ∧ Instr.admittedIn .isr (.mode d g m) = false ∧
    exec (.mode d g .hiz) s =
      .next { s with
        data := if d = true then .hiZ else s.data, gate := if g = true then .hiZ else s.gate } ∧
    exec (.mode d g .driveLow) s =
      .next { s with
        data := if d = true then .driveLow else s.data
        gate := if g = true then .driveLow else s.gate }

/-- R193: BDO branches exactly when the door reads open at the current tick, and writes nothing but the
pc. -/
def Obligations.BdoBranchesWhenOpen : Prop :=
  ∀ (tgt : Index) (s : State),
    Instr.admittedIn .isr (.bdo tgt) = true ∧ Instr.admittedIn .main (.bdo tgt) = false ∧
    (s.par.inputs.doorAt s.pos.t = false → exec (.bdo tgt) s = .next s) ∧
    (s.par.inputs.doorAt s.pos.t = true → s.ctx = .isr →
      exec (.bdo tgt) s = .next { s with i := { s.i with pc := tgt.toNat } }) ∧
    (s.par.inputs.doorAt s.pos.t = true → s.ctx = .main →
      exec (.bdo tgt) s = .next { s with m := { s.m with pc := tgt.toNat } })

/-- R196: ARMSET arms, changes nothing where the block is armed, and writes nothing else; its word;
PROG_I only. -/
def Obligations.ArmsetArms : Prop :=
  decode 0x7000 = .op .armset ∧ Instr.admittedIn .isr .armset = true ∧
  Instr.admittedIn .main .armset = false ∧
  ∀ s : State,
    exec .armset s = .next { s with arm := true } ∧ (s.arm = true → exec .armset s = .next s)

/-- R233: ARMCLR disarms whether or not an ARMSET ran, and writes nothing else; PROG_M only. -/
def Obligations.ArmclrDisarms : Prop :=
  Instr.admittedIn .main .armclr = true ∧ Instr.admittedIn .isr .armclr = false ∧
  ∀ s : State,
    exec .armclr s = .next { s with arm := false } ∧
    exec .armclr { s with arm := true } = .next { s with arm := false }

/-- R234: HALT sets `halted` and writes nothing else; PROG_M only. -/
def Obligations.HaltSetsHalted : Prop :=
  Instr.admittedIn .main .halt = true ∧ Instr.admittedIn .isr .halt = false ∧
  ∀ s : State, exec .halt s = .next { s with halted := true }

/-- R192: CLRPEND clears `pending` and writes nothing else; PROG_I only. -/
def Obligations.ClrpendClearsPending : Prop :=
  Instr.admittedIn .isr .clrpend = true ∧ Instr.admittedIn .main .clrpend = false ∧
  ∀ s : State, exec .clrpend s = .next { s with pending := false }

/-- R194, R197: IDIS and IEN write `ie` and nothing else; PROG_I only. -/
def Obligations.IdisAndIenWriteIe : Prop :=
  Instr.admittedIn .isr .idis = true ∧ Instr.admittedIn .main .idis = false ∧
  Instr.admittedIn .isr .ien = true ∧ Instr.admittedIn .main .ien = false ∧
  ∀ s : State,
    exec .idis s = .next { s with ie := false } ∧ exec .ien s = .next { s with ie := true }

/-- R198, R268: RETI gives the tick back to the main context, whose pc, queue and counter are as they
were; it writes no other flag; PROG_I only. -/
def Obligations.RetiReturnsToMain : Prop :=
  Instr.admittedIn .isr .reti = true ∧ Instr.admittedIn .main .reti = false ∧
  ∀ s : State, exec .reti s = .next { s with ctx := .main }

/-- R32, R33, R36, R69: the frame of every operation. Each field changes only under the operations that
write it; the other context's record, `doorPrev`, the fault, the programs and all parameters never do. -/
def Obligations.OperationFrame : Prop :=
  ∀ (i : Instr) (s t : State), exec i s = .next t →
    (t.arm ≠ s.arm → i = .armset ∨ i = .armclr) ∧
    (t.pending ≠ s.pending → i = .clrpend) ∧
    (t.ie ≠ s.ie → i = .idis ∨ i = .ien) ∧
    (t.halted ≠ s.halted → i = .halt) ∧
    (t.ctx ≠ s.ctx → i = .reti) ∧
    (t.data ≠ s.data → (∃ v, i = .lvl v) ∨ ∃ g m, i = .mode true g m) ∧
    (t.gate ≠ s.gate → ∃ d m, i = .mode d true m) ∧
    (t.m.pc ≠ s.m.pc ∨ t.i.pc ≠ s.i.pc → ∃ tgt, i = .bna tgt ∨ i = .jmp tgt ∨ i = .bdo tgt) ∧
    (t.m.q ≠ s.m.q ∨ t.i.q ≠ s.i.q → (∃ b, i = .send b) ∨ ∃ p r, i = .cycle p r) ∧
    (t.m.wait ≠ s.m.wait ∨ t.i.wait ≠ s.i.wait → ∃ n, i = .wait n) ∧
    (s.ctx = .main → t.i = s.i) ∧ (s.ctx = .isr → t.m = s.m) ∧
    t.doorPrev = s.doorPrev ∧ t.fault = s.fault ∧ t.pos = s.pos ∧ t.par = s.par

/-! The wire frame -/

/-- R80: the frame of a byte, slot by slot. -/
def Obligations.FrameSlots : Prop :=
  ∀ b : Byte,
    let h := fun j => if b.getLsbD j = true then Level.low else Level.high
    frame b =
      [.high, h 0, h 1, h 2, h 3, h 4, h 5, h 6, h 7, .low, .low] ∧
    durationMs (expandSend b) = 44

/-- R81: the frame decodes back to its byte, for all 256 of them; so does what SEND queues (R154). -/
def Obligations.FrameDecodesBack : Prop :=
  ∀ b : Byte, frameByte (frame b) = b ∧ sentBytes (expandSend b) = [b]

/-- R171, R172: 324·r primitives and 992·r ms for a CYCLE, 248 ms for a group. -/
def Obligations.CycleLengthAndDuration : Prop :=
  ∀ (c : Config) (p : Profile) (k r : Nat),
    durationMs (expandGroup c p k) = 248 ∧
    durationMs (expandCycle c p r) = 992 * r ∧ (expandCycle c p r).length = 324 * r

/-- R173: the characters a CYCLE sends: for All, each repetition S,C,E,A S,C,E,E S,C,E,I S,C,E,W; for a
single-selector profile S,C,E,x four times; r repetitions, 16·r characters. -/
def Obligations.CycleCharacterStream : Prop :=
  ∀ (c : Config) (r : Nat),
    let cd := c.codes
    let all := [cd.s, cd.c, cd.e, cd.a, cd.s, cd.c, cd.e, cd.e, cd.s, cd.c, cd.e, cd.i,
      cd.s, cd.c, cd.e, cd.w]
    let one := fun x => [cd.s, cd.c, cd.e, x, cd.s, cd.c, cd.e, x, cd.s, cd.c, cd.e, x,
      cd.s, cd.c, cd.e, x]
    sentBytes (expandCycle c .all r) = (List.replicate r all).flatten ∧
    sentBytes (expandCycle c .na r) = (List.replicate r (one (code c c.sels.na))).flatten ∧
    sentBytes (expandCycle c .eur r) = (List.replicate r (one (code c c.sels.eur))).flatten ∧
    sentBytes (expandCycle c .jpn r) = (List.replicate r (one (code c c.sels.jpn))).flatten ∧
    sentBytes (expandCycle c .debug r) = (List.replicate r (one (code c c.sels.debug))).flatten ∧
    ∀ p, (sentBytes (expandCycle c p r)).length = 16 * r

/-! Reset and admission -/

/-- R40: the state after reset, for every configuration (both values of ARM_RESET) and every input. -/
def Obligations.ResetFields : Prop :=
  ∀ (c : Config) (x : Inputs),
    let s := State.resetWith c x
    s.arm = c.armReset ∧ s.pending = false ∧ s.ie = true ∧ s.doorPrev = x.doorAt 0 ∧
    s.ctx = .main ∧ s.halted = false ∧ s.m.pc = 0 ∧ s.m.q = [] ∧ s.m.wait = 0 ∧
    s.i.pc = 0 ∧ s.i.q = [] ∧ s.i.wait = 0 ∧ s.data = .hiZ ∧ s.gate = .hiZ ∧ s.fault = none

/-- R96: the two programs the block runs from reset, word by word; word 6 carries R and PROFILE. -/
def Obligations.FixedProgramWords : Prop :=
  ∀ (c : Config) (x : Inputs),
    (State.resetWith c x).par.progM =
      ([0x5009, 0x0032, 0x2005, 0x0352, 0x2006, 0x013A,
       (0x4000 : Word) ||| (c.r.zeroExtend 16 <<< 3) ||| (codeOfProfile c.profile).zeroExtend 16,
       0x2003, 0x8000, 0x9000, 0x6000] : List Word) ∧
    (State.resetWith c x).par.progI =
      ([0xA000, 0xD007, 0xB000, 0x0032, 0xD006, 0x7000, 0xC000, 0xE000] : List Word)

/-- R95: a pair of programs is admitted exactly when WF1 to WF5 hold. -/
def Obligations.AdmissionOfPrograms : Prop :=
  ∀ pm pi : List Word,
    programFlaw pm pi = none ↔
      (∀ w ∈ pm, ∃ i, decode w = .op i ∧ i.admittedIn .main = true ∧
        ∀ t, i.target = some t → t.toNat < pm.length) ∧
      (∀ w ∈ pi, ∃ i, decode w = .op i ∧ i.admittedIn .isr = true ∧
        ∀ t, i.target = some t → t.toNat < pi.length) ∧
      1 ≤ pm.length ∧ pm.length ≤ 4096 ∧ 1 ≤ pi.length ∧ pi.length ≤ 4096 ∧
      ∃ w ∈ pi, decode w = .op .reti

/-- R97 (its first sentence): the fixed programs are admitted, whatever the profile and R in 1..511. -/
def Obligations.FixedProgramsAreAdmitted : Prop :=
  ∀ c : Config, c.r ≠ 0 → programFlaw (fixedMain c) fixedIsr = none

/-- R8, R88, R95 (and log 10): a step is refused exactly when the run is not admitted, for that reason,
and no step ends in `Outcome.fault` (log 9). -/
def Obligations.RefusedExactlyWhenNotAdmitted : Prop :=
  ∀ (s : State) (r : Refusal) (f : Fault),
    (step s = .refused r ↔ s.fault = none ∧ s.par.refusal = some r) ∧ step s ≠ .fault f

/-! Steps (logs 1 and 2 for the cut of the tick and the `pos` fields) -/

/-- R122: when the word at the pc decodes to `i`, a step that reaches the fetch is `exec i` of the state
with the pc advanced by one and the operation counted; an opportunity that does not deliver is counted
too. -/
def Obligations.StepRunsDecodedOperation : Prop :=
  ∀ (s : State) (w : Word) (i : Instr),
    s.fault = none → s.par.refusal = none → s.pos.phase = .run →
    s.cur.wait = 0 → s.cur.q = [] → (s.ctx = .main → s.halted = false) →
    s.pos.z + 1 ≤ s.par.cfg.maxZt →
    s.program[s.cur.pc]? = some w → decode w = .op i →
    (s.opportunity = false → step s = exec i (s.countOperation.setPc (s.cur.pc + 1))) ∧
    (s.opportunity = true → s.draw = false →
      step s = exec i (s.countOpportunity.countOperation.setPc (s.cur.pc + 1)))

/-- R125, R265: a step with a primitive at the head of the main queue runs it, where there is no
delivery opportunity and where there is one that draws false (it is then counted): PLVL drives the data
line, PWAIT loads the counter with ms(n). -/
def Obligations.StepRunsPrimitive : Prop :=
  ∀ (s : State) (v : Level) (n : Ms) (ps : List Prim),
    s.fault = none → s.par.refusal = none → s.pos.phase = .run →
    s.opportunity = false ∨ s.draw = false →
    s.ctx = .main → s.halted = false → s.m.wait = 0 → s.pos.z + 1 ≤ s.par.cfg.maxZt →
    let pos : Pos := { s.pos with
      z := s.pos.z + 1, b := if s.opportunity = true then s.pos.b + 1 else s.pos.b }
    (s.m.q = .plvl v :: ps →
      step s = .next { s with
        m := { s.m with q := ps }
        data := if v = .high then .driveHigh else .driveLow
        pos := pos }) ∧
    (s.m.q = .pwait n :: ps →
      step s = .next { s with
        m := { s.m with q := ps, wait := n.toNat * s.par.cfg.tpm }
        pos := pos })

/-- R27, R121: a waiting context consumes the tick: its own counter goes down by one and nothing else
changes but the position in time. -/
def Obligations.StepSpendsWaitingTick : Prop :=
  ∀ s : State,
    s.fault = none → s.par.refusal = none → s.pos.phase = .run →
    (s.ctx = .main → 0 < s.m.wait → s.pending = false ∨ s.ie = false →
      step s = .next { s with
        m := { s.m with wait := s.m.wait - 1 }
        pos := { s.pos with t := s.pos.t + 1, phase := .sample } }) ∧
    (s.ctx = .isr → 0 < s.i.wait →
      step s = .next { s with
        i := { s.i with wait := s.i.wait - 1 }
        pos := { s.pos with t := s.pos.t + 1, phase := .sample } })

/-- R121, R234, R276: in the halt, with nothing deliverable, the tick is idle and every field survives. -/
def Obligations.StepIdlesInHalt : Prop :=
  ∀ s : State,
    s.fault = none → s.par.refusal = none → s.pos.phase = .run → s.ctx = .main →
    s.halted = true → s.m.wait = 0 → s.pending = false ∨ s.ie = false →
    step s = .next { s with pos := { s.pos with t := s.pos.t + 1, phase := .sample } }

/-- R264, R265: where `ctx = Main`, `pending` and `ie` hold and the main context is halted, waits or
draws true, the interrupt is taken: ISR context from index 0, the halt over, nothing else. -/
def Obligations.StepTakesInterrupt : Prop :=
  ∀ s : State,
    s.fault = none → s.par.refusal = none → s.pos.phase = .run →
    s.ctx = .main → s.pending = true → s.ie = true →
    s.halted = true ∨ 0 < s.m.wait ∨ s.par.inputs.drawAt s.pos.t s.pos.b = true →
    step s = .next { s with
      ctx := .isr
      i := { pc := 0, q := [], wait := 0 }
      halted := false
      pos := { s.pos with b := s.pos.b + 1 } }

/-- R190: at the start of a tick the edge detector latches `pending` on the configured edge, whatever
`ie`, `ctx` and `halted`, and samples the door. -/
def Obligations.StepLatchesEdge : Prop :=
  ∀ s : State,
    s.fault = none → s.par.refusal = none → s.pos.phase = .sample →
    let d := s.par.inputs.doorAt s.pos.t
    let pos : Pos := { s.pos with phase := .run, z := 0, b := 0 }
    (s.par.cfg.doorEdge = .falling → s.doorPrev = true ∧ d = false →
      step s = .next { s with pending := true, doorPrev := d, pos := pos }) ∧
    (s.par.cfg.doorEdge = .falling → ¬ (s.doorPrev = true ∧ d = false) →
      step s = .next { s with doorPrev := d, pos := pos }) ∧
    (s.par.cfg.doorEdge = .anyChange → s.doorPrev ≠ d →
      step s = .next { s with pending := true, doorPrev := d, pos := pos }) ∧
    (s.par.cfg.doorEdge = .anyChange → s.doorPrev = d →
      step s = .next { s with doorPrev := d, pos := pos })

/-- R35, R262: a recorded fault is absorbing: no step and no tick changes any field. The model answers
`next` with the same state (log 9). -/
def Obligations.FaultIsAbsorbing : Prop :=
  ∀ s : State, s.fault ≠ none → step s = .next s ∧ tick s = .next s

/-- R122, R261, R262, R269: a fetch at or past the program's length records PcOutOfRange and leaves
every field of R20 but `fault` as it was, the pc among them; the delivery check comes first, so at an
opportunity it is recorded where the draw is false. -/
def Obligations.PcOutOfRangeIsRecorded : Prop :=
  ∀ s : State,
    s.fault = none → s.par.refusal = none → s.pos.phase = .run →
    s.opportunity = false ∨ s.draw = false →
    s.cur.wait = 0 → s.cur.q = [] → (s.ctx = .main → s.halted = false) →
    s.pos.z + 1 ≤ s.par.cfg.maxZt → s.program.length ≤ s.cur.pc →
    step s = .next { s with
      fault := some .pcOutOfRange
      pos := { s.pos with
        z := s.pos.z + 1, b := if s.opportunity = true then s.pos.b + 1 else s.pos.b } }

/-- R121, R261, R262, R269: the operation or primitive that would exceed MAX_ZT in a tick does not run;
the step records ZeroTimeLoop and leaves the rest as it was; the delivery check comes first, so at an
opportunity it is recorded where the draw is false. -/
def Obligations.ZeroTimeLoopIsRecorded : Prop :=
  ∀ s : State,
    s.fault = none → s.par.refusal = none → s.pos.phase = .run →
    s.opportunity = false ∨ s.draw = false →
    s.cur.wait = 0 → (s.ctx = .main → s.halted = false) → s.par.cfg.maxZt < s.pos.z + 1 →
    step s = .next { s with
      fault := some .zeroTimeLoop
      pos := { s.pos with b := if s.opportunity = true then s.pos.b + 1 else s.pos.b } }

/-! Whole-machine rules over every step -/

/-- R9, R20, R25, R26, R27: the ranges of the state, kept by every step of every run. -/
def Obligations.StepKeepsRunInv : Prop :=
  ∀ s t : State, RunInv s → step s = .next t → RunInv t

/-- The same holds after reset. -/
def Obligations.ResetHasRunInv : Prop :=
  ∀ (c : Config) (x : Inputs), RunInv (State.resetWith c x)

/-- R97, R232, R237, R238, R310: the invariant of the block with its fixed programs, kept by every
step: neither pc leaves its program, delivery is enabled whenever the main context runs, the lines are
driven in their steps alone, and a block that warms up or transmits is armed. -/
def Obligations.StepKeepsBlockInv : Prop :=
  ∀ s t : State, BlockInv s → step s = .next t → BlockInv t

/-- R97, R261, R312: the invariant of a fixed block in a configuration of R8's ranges that has no fault
and cannot reach one, kept by every step: what a tick has run and can still run stays below MAX_ZT. -/
def Obligations.StepKeepsFaultFreeInv : Prop :=
  ∀ s t : State, FaultFreeInv s → step s = .next t → FaultFreeInv t

/-- Both hold after reset: the block's for every configuration, the other for every one in R8's
ranges. -/
def Obligations.ResetHasBlockInv : Prop :=
  ∀ (c : Config) (x : Inputs),
    BlockInv (State.resetWith c x) ∧
    (configInRange c = true → FaultFreeInv (State.resetWith c x))

/-- R200, R309: the block arms only at a tick whose door level is closed and that lies ms(50) after a
tick whose door level was closed. -/
def Obligations.ArmingNeedsTwoClosedSamples : Prop :=
  ∀ s t : State, BlockInv s → s.arm = false → step s = .next t → t.arm = true →
    s.par.inputs.doorAt s.pos.t = false ∧
    ∃ te, te + 50 * s.par.cfg.tpm = s.pos.t ∧ s.par.inputs.doorAt te = false

/-- R238 (a): in the fixed block, ArmState falls only at index 8, with the whole expansion of CYCLE
consumed: no partial cycle clears it. -/
def Obligations.NoPartialCycleDisarms : Prop :=
  ∀ s t : State, BlockInv s → s.arm = true → step s = .next t → t.arm = false →
    s.ctx = .main ∧ s.m.pc = 8 ∧ s.m.q = [] ∧ s.m.wait = 0 ∧ t.m.pc = 9

/-- R24, R68: in every admitted run, ArmState rises only by an ARMSET fetched by the interrupt context
and falls only by an ARMCLR fetched by the main context. -/
def Obligations.ArmHasTwoWriters : Prop :=
  ∀ s t : State, step s = .next t →
    (s.arm = false → t.arm = true →
      s.ctx = .isr ∧ ∃ w, s.par.progI[s.i.pc]? = some w ∧ decode w = .op .armset) ∧
    (s.arm = true → t.arm = false →
      s.ctx = .main ∧ ∃ w, s.par.progM[s.m.pc]? = some w ∧ decode w = .op .armclr)

/-- R28: `pending` rises only at the start of a tick, on the configured edge, and falls only by a
CLRPEND fetched by the interrupt context. -/
def Obligations.PendingHasTwoWriters : Prop :=
  ∀ s t : State, step s = .next t →
    (s.pending = false → t.pending = true →
      s.pos.phase = .sample ∧
      edge s.par.cfg.doorEdge s.doorPrev (s.par.inputs.doorAt s.pos.t) = true) ∧
    (s.pending = true → t.pending = false →
      s.ctx = .isr ∧ ∃ w, s.par.progI[s.i.pc]? = some w ∧ decode w = .op .clrpend)

/-- R33: only a MODE of the main context that names the gate line changes it, in every admitted run. -/
def Obligations.GateHasOneWriter : Prop :=
  ∀ s t : State, step s = .next t → t.gate ≠ s.gate →
    s.ctx = .main ∧
    ∃ w d m, s.par.progM[s.m.pc]? = some w ∧ decode w = .op (.mode d true m)

/-- R175, R195, R267, R305: while the interrupt context runs (its queue empty, as RunInv says), the main
context, the halted flag and both lines are frozen, and only its own RETI ends it. -/
def Obligations.IsrFreezesMainAndLines : Prop :=
  ∀ s t : State, s.ctx = .isr → s.i.q = [] → step s = .next t →
    t.m = s.m ∧ t.data = s.data ∧ t.gate = s.gate ∧ t.halted = s.halted ∧
    (t.ctx = .main → ∃ w, s.par.progI[s.i.pc]? = some w ∧ decode w = .op .reti)

/-- R20, R69: no step writes a program word, the configuration or the inputs. -/
def Obligations.StepKeepsParameters : Prop :=
  ∀ s t : State, step s = .next t → t.par = s.par

/-! Ticks -/

/-- R120, R121: the tick in the spec's own shape is a run of steps: from the start of a tick, some
number of steps gives exactly what the tick function gives. -/
def Obligations.TickIsARunOfSteps : Prop :=
  ∀ s : State, s.fault = none → s.pos.phase = .sample →
    ∃ n, 0 < n ∧ Host.Core.run Sys2Proof.core n s = tick s

/-- R121, R261: every tick of an admitted run ends: it is consumed, and the next tick is one later, or
a fault is recorded in it. -/
def Obligations.EveryTickEnds : Prop :=
  ∀ s : State, s.fault = none → s.par.refusal = none → s.pos.phase = .sample →
    ∃ t, tick s = .next t ∧
      ((t.fault = none ∧ t.pos.phase = .sample ∧ t.pos.t = s.pos.t + 1) ∨
       (t.fault ≠ none ∧ t.pos.t = s.pos.t))

/-- R42: a quiescent state stays quiescent, its lines unchanged, through a tick with no configured
edge. -/
def Obligations.QuiescentUntilEdge : Prop :=
  ∀ s : State, s.par.refusal = none → s.pos.phase = .sample → s.quiescent = true →
    edge s.par.cfg.doorEdge s.doorPrev (s.par.inputs.doorAt s.pos.t) = false →
    ∃ t, tick s = .next t ∧ t.quiescent = true ∧ t.data = s.data ∧ t.gate = s.gate ∧
      t.pos.phase = .sample ∧ t.pos.t = s.pos.t + 1

/-- R27, R123, R127, R195: a wait of `w` ticks takes exactly the ticks its own context consumes. A
main-context wait with no delivery, and an interrupt-context wait whatever the door does, counts down
one a tick while the lines hold; the main context is frozen in the latter. -/
def Obligations.WaitCountsItsOwnTicks : Prop :=
  ∀ (s : State) (k : Nat),
    s.fault = none → s.par.refusal = none → s.pos.phase = .sample →
    (s.ctx = .main → k ≤ s.m.wait → s.NoDelivery k →
      ∃ t, ticks k s = .next t ∧ t.fault = none ∧ t.pos.t = s.pos.t + k ∧ t.ctx = .main ∧
        t.m = { s.m with wait := s.m.wait - k } ∧ t.data = s.data ∧ t.gate = s.gate ∧
        t.arm = s.arm) ∧
    (s.ctx = .isr → k ≤ s.i.wait →
      ∃ t, ticks k s = .next t ∧ t.fault = none ∧ t.pos.t = s.pos.t + k ∧ t.ctx = .isr ∧
        t.i = { s.i with wait := s.i.wait - k } ∧ t.m = s.m ∧ t.data = s.data ∧
        t.gate = s.gate ∧ t.arm = s.arm)

/-- R152, R153: the waveform of a SEND with no delivery before its last primitive completes, from its
tick t0 on: of a SEND fetched in that tick, and of one whose primitives are at the head of the queue (a
CYCLE's characters, R174); t0 taken at its start, or inside it with room under MAX_ZT for the operations
that start the SEND. -/
def Obligations.SendWaveform : Prop :=
  ∀ (s : State) (b : Byte),
    s.fault = none → s.par.refusal = none → s.ctx = .main → s.halted = false → s.m.wait = 0 →
    (s.pos.phase = .sample → s.NoDelivery (44 * s.par.cfg.tpm) →
      (∀ w, s.m.q = [] → s.par.progM[s.m.pc]? = some w → decode w = .op (.send b) →
        s.SendsByte b { s.m with pc := s.m.pc + 1 }) ∧
      ∀ rest, s.m.q = expandSend b ++ rest → s.SendsByte b { s.m with q := rest }) ∧
    (s.pos.phase = .run → s.endTick.NoDelivery (44 * s.par.cfg.tpm - 1) →
      (∀ w, s.m.q = [] → s.par.progM[s.m.pc]? = some w → decode w = .op (.send b) →
        s.pos.z + 3 ≤ s.par.cfg.maxZt → s.SendsByte b { s.m with pc := s.m.pc + 1 }) ∧
      ∀ rest, s.m.q = expandSend b ++ rest → s.pos.z + 2 ≤ s.par.cfg.maxZt →
        s.SendsByte b { s.m with q := rest })

/-- R199 (its first row): a delivery of the fixed interrupt program whose entry sample is open clears
`pending`, does nothing else, and is back in the main context in the same tick, after three
operations. -/
def Obligations.OpenEntryOnlyClearsPending : Prop :=
  ∀ s : State, BlockInv s → s.fault = none → s.par.refusal = none →
    s.ctx = .isr → s.i.pc = 0 → s.par.inputs.doorAt s.pos.t = true →
    s.pos.z + 3 ≤ s.par.cfg.maxZt →
    Host.Core.run Sys2Proof.core 3 s =
      .next { s with
        ctx := .main, pending := false, i := { s.i with pc := 8 }
        pos := { s.pos with z := s.pos.z + 3 } }

/-- R199 (its second and third row), R195, R201: a delivery of the fixed interrupt program whose entry
sample is closed opens the window (`pending` cleared in the delivery tick, delivery off, the interrupt
context waiting), holds it for ms(50) ticks, and returns in tick te + ms(50) with delivery on and the
block armed exactly if the door then reads closed or it was armed before. -/
def Obligations.ClosedEntryDebounces : Prop :=
  ∀ s : State, BlockInv s → s.fault = none → s.par.refusal = none →
    s.ctx = .isr → s.i.pc = 0 → s.par.inputs.doorAt s.pos.t = false →
    s.pos.z + 4 ≤ s.par.cfg.maxZt →
    Host.Core.run Sys2Proof.core 4 s =
      .next { s with
        pending := false, ie := false, i := { pc := 4, q := [], wait := 50 * s.par.cfg.tpm }
        pos := { s.pos with z := s.pos.z + 4 } } ∧
    (∀ x, 1 ≤ x → x ≤ 50 * s.par.cfg.tpm →
      ∃ n t, Host.Core.run Sys2Proof.core n s = .next t ∧ InWindow s t x) ∧
    ∃ n t, Host.Core.run Sys2Proof.core n s = .next t ∧ WindowOver s t

/-- R303, R304: tick 0 from reset, for both values of the parameter ARM_RESET and every input: no edge;
disarmed, BNA is taken and the block is halted and quiescent with (HiZ, HiZ, Disarmed) observed; armed,
it falls through and the first tick of WAIT 50 is spent. -/
def Obligations.FirstTickFollowsArmReset : Prop :=
  ∀ (c : Config) (x : Inputs), configInRange c = true →
    (c.armReset = false →
      ∃ t, tick (State.resetWith c x) = .next t ∧ t.quiescent = true ∧ t.m.pc = 10 ∧
        t.pos.t = 1 ∧ t.report = .out { data := .hiZ, gate := .hiZ, arm := false }) ∧
    (c.armReset = true →
      ∃ t, tick (State.resetWith c x) = .next t ∧ t.m = { pc := 2, q := [], wait := 50 * c.tpm - 1 } ∧
        t.halted = false ∧ t.ctx = .main ∧ t.pending = false ∧ t.pos.t = 1 ∧
        t.report = .out { data := .hiZ, gate := .hiZ, arm := true })

/-- R97, R261, R312: with the fixed programs neither fault is reachable, whatever the configuration in
R8's ranges, the door and the draws. -/
def Obligations.FixedBlockNeverFaults : Prop :=
  ∀ (c : Config) (x : Inputs) (n : Nat), configInRange c = true →
    ∃ t, Host.Core.run Sys2Proof.core n (State.resetWith c x) = .next t ∧ t.fault = none
end

