-- ==== Sys2Proof/Laws/Decode.lean ====
section
/-! SUPPORT. The fields of a word put together from an opcode and an operand (R83). -/

namespace Sys2Proof

/-- The opcode field of `opcode ++ operand`. -/
theorem opcodeOf_append (op : BitVec 4) (a : BitVec 12) : opcodeOf (op ++ a) = op.toNat := by
  have h : BitVec.extractLsb' 12 4 (op ++ a) = op := by
    ext k hk
    have hb := BitVec.getLsbD_append (x := op) (y := a) (i := 12 + k)
    simpa [BitVec.getLsbD_eq_getElem hk] using hb
  exact congrArg BitVec.toNat h

/-- The operand field of `opcode ++ operand`. -/
theorem operandOf_append (op : BitVec 4) (a : BitVec 12) : operandOf (op ++ a) = a := by
  ext k hk
  have hb := BitVec.getLsbD_append (x := op) (y := a) (i := k)
  simpa [operandOf, hk, BitVec.getLsbD_eq_getElem hk] using hb

/-- A word is its opcode field and its operand field. -/
theorem append_opcode_operand (w : Word) : (w.extractLsb' 12 4 ++ operandOf w : BitVec 16) = w := by
  apply BitVec.eq_of_getLsbD_eq
  intro k hk
  have hb := BitVec.getLsbD_append (x := w.extractLsb' 12 4) (y := operandOf w) (i := k)
  refine hb.trans ?_
  by_cases h : k < 12
  · simp [operandOf, h]
  · have : 12 + (k - 12) = k := by omega
    simp [h, this, show k - 12 < 4 by omega]

end Sys2Proof
end

