-- ==== Sys2Proof/Laws/State.lean ====
section
/-! SUPPORT. One lemma per field per update of the state, true by rfl, so that no later proof unfolds a
record update; and the same for the updates of the live context's record, by cases on the context. -/

namespace Sys2Proof.Machine

/-! `setArm` -/

@[simp] theorem State.setArm_arm (s : State) (v : Bool) : (s.setArm v).arm = v := rfl
@[simp] theorem State.setArm_pending (s : State) (v : Bool) : (s.setArm v).pending = s.pending := rfl
@[simp] theorem State.setArm_ie (s : State) (v : Bool) : (s.setArm v).ie = s.ie := rfl
@[simp] theorem State.setArm_doorPrev (s : State) (v : Bool) : (s.setArm v).doorPrev = s.doorPrev := rfl
@[simp] theorem State.setArm_ctx (s : State) (v : Bool) : (s.setArm v).ctx = s.ctx := rfl
@[simp] theorem State.setArm_halted (s : State) (v : Bool) : (s.setArm v).halted = s.halted := rfl
@[simp] theorem State.setArm_m (s : State) (v : Bool) : (s.setArm v).m = s.m := rfl
@[simp] theorem State.setArm_i (s : State) (v : Bool) : (s.setArm v).i = s.i := rfl
@[simp] theorem State.setArm_data (s : State) (v : Bool) : (s.setArm v).data = s.data := rfl
@[simp] theorem State.setArm_gate (s : State) (v : Bool) : (s.setArm v).gate = s.gate := rfl
@[simp] theorem State.setArm_fault (s : State) (v : Bool) : (s.setArm v).fault = s.fault := rfl
@[simp] theorem State.setArm_pos (s : State) (v : Bool) : (s.setArm v).pos = s.pos := rfl
@[simp] theorem State.setArm_par (s : State) (v : Bool) : (s.setArm v).par = s.par := rfl

/-! `setPending` -/

@[simp] theorem State.setPending_arm (s : State) (v : Bool) : (s.setPending v).arm = s.arm := rfl
@[simp] theorem State.setPending_pending (s : State) (v : Bool) : (s.setPending v).pending = v := rfl
@[simp] theorem State.setPending_ie (s : State) (v : Bool) : (s.setPending v).ie = s.ie := rfl
@[simp] theorem State.setPending_doorPrev (s : State) (v : Bool) : (s.setPending v).doorPrev = s.doorPrev := rfl
@[simp] theorem State.setPending_ctx (s : State) (v : Bool) : (s.setPending v).ctx = s.ctx := rfl
@[simp] theorem State.setPending_halted (s : State) (v : Bool) : (s.setPending v).halted = s.halted := rfl
@[simp] theorem State.setPending_m (s : State) (v : Bool) : (s.setPending v).m = s.m := rfl
@[simp] theorem State.setPending_i (s : State) (v : Bool) : (s.setPending v).i = s.i := rfl
@[simp] theorem State.setPending_data (s : State) (v : Bool) : (s.setPending v).data = s.data := rfl
@[simp] theorem State.setPending_gate (s : State) (v : Bool) : (s.setPending v).gate = s.gate := rfl
@[simp] theorem State.setPending_fault (s : State) (v : Bool) : (s.setPending v).fault = s.fault := rfl
@[simp] theorem State.setPending_pos (s : State) (v : Bool) : (s.setPending v).pos = s.pos := rfl
@[simp] theorem State.setPending_par (s : State) (v : Bool) : (s.setPending v).par = s.par := rfl

/-! `setIe` -/

@[simp] theorem State.setIe_arm (s : State) (v : Bool) : (s.setIe v).arm = s.arm := rfl
@[simp] theorem State.setIe_pending (s : State) (v : Bool) : (s.setIe v).pending = s.pending := rfl
@[simp] theorem State.setIe_ie (s : State) (v : Bool) : (s.setIe v).ie = v := rfl
@[simp] theorem State.setIe_doorPrev (s : State) (v : Bool) : (s.setIe v).doorPrev = s.doorPrev := rfl
@[simp] theorem State.setIe_ctx (s : State) (v : Bool) : (s.setIe v).ctx = s.ctx := rfl
@[simp] theorem State.setIe_halted (s : State) (v : Bool) : (s.setIe v).halted = s.halted := rfl
@[simp] theorem State.setIe_m (s : State) (v : Bool) : (s.setIe v).m = s.m := rfl
@[simp] theorem State.setIe_i (s : State) (v : Bool) : (s.setIe v).i = s.i := rfl
@[simp] theorem State.setIe_data (s : State) (v : Bool) : (s.setIe v).data = s.data := rfl
@[simp] theorem State.setIe_gate (s : State) (v : Bool) : (s.setIe v).gate = s.gate := rfl
@[simp] theorem State.setIe_fault (s : State) (v : Bool) : (s.setIe v).fault = s.fault := rfl
@[simp] theorem State.setIe_pos (s : State) (v : Bool) : (s.setIe v).pos = s.pos := rfl
@[simp] theorem State.setIe_par (s : State) (v : Bool) : (s.setIe v).par = s.par := rfl

/-! `setHalted` -/

@[simp] theorem State.setHalted_arm (s : State) (v : Bool) : (s.setHalted v).arm = s.arm := rfl
@[simp] theorem State.setHalted_pending (s : State) (v : Bool) : (s.setHalted v).pending = s.pending := rfl
@[simp] theorem State.setHalted_ie (s : State) (v : Bool) : (s.setHalted v).ie = s.ie := rfl
@[simp] theorem State.setHalted_doorPrev (s : State) (v : Bool) : (s.setHalted v).doorPrev = s.doorPrev := rfl
@[simp] theorem State.setHalted_ctx (s : State) (v : Bool) : (s.setHalted v).ctx = s.ctx := rfl
@[simp] theorem State.setHalted_halted (s : State) (v : Bool) : (s.setHalted v).halted = v := rfl
@[simp] theorem State.setHalted_m (s : State) (v : Bool) : (s.setHalted v).m = s.m := rfl
@[simp] theorem State.setHalted_i (s : State) (v : Bool) : (s.setHalted v).i = s.i := rfl
@[simp] theorem State.setHalted_data (s : State) (v : Bool) : (s.setHalted v).data = s.data := rfl
@[simp] theorem State.setHalted_gate (s : State) (v : Bool) : (s.setHalted v).gate = s.gate := rfl
@[simp] theorem State.setHalted_fault (s : State) (v : Bool) : (s.setHalted v).fault = s.fault := rfl
@[simp] theorem State.setHalted_pos (s : State) (v : Bool) : (s.setHalted v).pos = s.pos := rfl
@[simp] theorem State.setHalted_par (s : State) (v : Bool) : (s.setHalted v).par = s.par := rfl

/-! `setCtx` -/

@[simp] theorem State.setCtx_arm (s : State) (c : CtxId) : (s.setCtx c).arm = s.arm := rfl
@[simp] theorem State.setCtx_pending (s : State) (c : CtxId) : (s.setCtx c).pending = s.pending := rfl
@[simp] theorem State.setCtx_ie (s : State) (c : CtxId) : (s.setCtx c).ie = s.ie := rfl
@[simp] theorem State.setCtx_doorPrev (s : State) (c : CtxId) : (s.setCtx c).doorPrev = s.doorPrev := rfl
@[simp] theorem State.setCtx_ctx (s : State) (c : CtxId) : (s.setCtx c).ctx = c := rfl
@[simp] theorem State.setCtx_halted (s : State) (c : CtxId) : (s.setCtx c).halted = s.halted := rfl
@[simp] theorem State.setCtx_m (s : State) (c : CtxId) : (s.setCtx c).m = s.m := rfl
@[simp] theorem State.setCtx_i (s : State) (c : CtxId) : (s.setCtx c).i = s.i := rfl
@[simp] theorem State.setCtx_data (s : State) (c : CtxId) : (s.setCtx c).data = s.data := rfl
@[simp] theorem State.setCtx_gate (s : State) (c : CtxId) : (s.setCtx c).gate = s.gate := rfl
@[simp] theorem State.setCtx_fault (s : State) (c : CtxId) : (s.setCtx c).fault = s.fault := rfl
@[simp] theorem State.setCtx_pos (s : State) (c : CtxId) : (s.setCtx c).pos = s.pos := rfl
@[simp] theorem State.setCtx_par (s : State) (c : CtxId) : (s.setCtx c).par = s.par := rfl

/-! `driveData` -/

@[simp] theorem State.driveData_arm (s : State) (d : DataDrive) : (s.driveData d).arm = s.arm := rfl
@[simp] theorem State.driveData_pending (s : State) (d : DataDrive) : (s.driveData d).pending = s.pending := rfl
@[simp] theorem State.driveData_ie (s : State) (d : DataDrive) : (s.driveData d).ie = s.ie := rfl
@[simp] theorem State.driveData_doorPrev (s : State) (d : DataDrive) : (s.driveData d).doorPrev = s.doorPrev := rfl
@[simp] theorem State.driveData_ctx (s : State) (d : DataDrive) : (s.driveData d).ctx = s.ctx := rfl
@[simp] theorem State.driveData_halted (s : State) (d : DataDrive) : (s.driveData d).halted = s.halted := rfl
@[simp] theorem State.driveData_m (s : State) (d : DataDrive) : (s.driveData d).m = s.m := rfl
@[simp] theorem State.driveData_i (s : State) (d : DataDrive) : (s.driveData d).i = s.i := rfl
@[simp] theorem State.driveData_data (s : State) (d : DataDrive) : (s.driveData d).data = d := rfl
@[simp] theorem State.driveData_gate (s : State) (d : DataDrive) : (s.driveData d).gate = s.gate := rfl
@[simp] theorem State.driveData_fault (s : State) (d : DataDrive) : (s.driveData d).fault = s.fault := rfl
@[simp] theorem State.driveData_pos (s : State) (d : DataDrive) : (s.driveData d).pos = s.pos := rfl
@[simp] theorem State.driveData_par (s : State) (d : DataDrive) : (s.driveData d).par = s.par := rfl

/-! `driveGate` -/

@[simp] theorem State.driveGate_arm (s : State) (g : GateDrive) : (s.driveGate g).arm = s.arm := rfl
@[simp] theorem State.driveGate_pending (s : State) (g : GateDrive) : (s.driveGate g).pending = s.pending := rfl
@[simp] theorem State.driveGate_ie (s : State) (g : GateDrive) : (s.driveGate g).ie = s.ie := rfl
@[simp] theorem State.driveGate_doorPrev (s : State) (g : GateDrive) : (s.driveGate g).doorPrev = s.doorPrev := rfl
@[simp] theorem State.driveGate_ctx (s : State) (g : GateDrive) : (s.driveGate g).ctx = s.ctx := rfl
@[simp] theorem State.driveGate_halted (s : State) (g : GateDrive) : (s.driveGate g).halted = s.halted := rfl
@[simp] theorem State.driveGate_m (s : State) (g : GateDrive) : (s.driveGate g).m = s.m := rfl
@[simp] theorem State.driveGate_i (s : State) (g : GateDrive) : (s.driveGate g).i = s.i := rfl
@[simp] theorem State.driveGate_data (s : State) (g : GateDrive) : (s.driveGate g).data = s.data := rfl
@[simp] theorem State.driveGate_gate (s : State) (g : GateDrive) : (s.driveGate g).gate = g := rfl
@[simp] theorem State.driveGate_fault (s : State) (g : GateDrive) : (s.driveGate g).fault = s.fault := rfl
@[simp] theorem State.driveGate_pos (s : State) (g : GateDrive) : (s.driveGate g).pos = s.pos := rfl
@[simp] theorem State.driveGate_par (s : State) (g : GateDrive) : (s.driveGate g).par = s.par := rfl

/-! `deliver` -/

@[simp] theorem State.deliver_arm (s : State) : s.deliver.arm = s.arm := rfl
@[simp] theorem State.deliver_pending (s : State) : s.deliver.pending = s.pending := rfl
@[simp] theorem State.deliver_ie (s : State) : s.deliver.ie = s.ie := rfl
@[simp] theorem State.deliver_doorPrev (s : State) : s.deliver.doorPrev = s.doorPrev := rfl
@[simp] theorem State.deliver_ctx (s : State) : s.deliver.ctx = .isr := rfl
@[simp] theorem State.deliver_halted (s : State) : s.deliver.halted = false := rfl
@[simp] theorem State.deliver_m (s : State) : s.deliver.m = s.m := rfl
@[simp] theorem State.deliver_i (s : State) : s.deliver.i = {} := rfl
@[simp] theorem State.deliver_data (s : State) : s.deliver.data = s.data := rfl
@[simp] theorem State.deliver_gate (s : State) : s.deliver.gate = s.gate := rfl
@[simp] theorem State.deliver_fault (s : State) : s.deliver.fault = s.fault := rfl
@[simp] theorem State.deliver_pos (s : State) : s.deliver.pos = s.pos := rfl
@[simp] theorem State.deliver_par (s : State) : s.deliver.par = s.par := rfl

/-! `returnFromIsr` -/

@[simp] theorem State.returnFromIsr_arm (s : State) : s.returnFromIsr.arm = s.arm := rfl
@[simp] theorem State.returnFromIsr_pending (s : State) : s.returnFromIsr.pending = s.pending := rfl
@[simp] theorem State.returnFromIsr_ie (s : State) : s.returnFromIsr.ie = s.ie := rfl
@[simp] theorem State.returnFromIsr_doorPrev (s : State) : s.returnFromIsr.doorPrev = s.doorPrev := rfl
@[simp] theorem State.returnFromIsr_ctx (s : State) : s.returnFromIsr.ctx = .main := rfl
@[simp] theorem State.returnFromIsr_halted (s : State) : s.returnFromIsr.halted = s.halted := rfl
@[simp] theorem State.returnFromIsr_m (s : State) : s.returnFromIsr.m = s.m := rfl
@[simp] theorem State.returnFromIsr_i (s : State) : s.returnFromIsr.i = s.i := rfl
@[simp] theorem State.returnFromIsr_data (s : State) : s.returnFromIsr.data = s.data := rfl
@[simp] theorem State.returnFromIsr_gate (s : State) : s.returnFromIsr.gate = s.gate := rfl
@[simp] theorem State.returnFromIsr_fault (s : State) : s.returnFromIsr.fault = s.fault := rfl
@[simp] theorem State.returnFromIsr_pos (s : State) : s.returnFromIsr.pos = s.pos := rfl
@[simp] theorem State.returnFromIsr_par (s : State) : s.returnFromIsr.par = s.par := rfl

/-! `raise` -/

@[simp] theorem State.raise_arm (s : State) (r : Fault) : (s.raise r).arm = s.arm := rfl
@[simp] theorem State.raise_pending (s : State) (r : Fault) : (s.raise r).pending = s.pending := rfl
@[simp] theorem State.raise_ie (s : State) (r : Fault) : (s.raise r).ie = s.ie := rfl
@[simp] theorem State.raise_doorPrev (s : State) (r : Fault) : (s.raise r).doorPrev = s.doorPrev := rfl
@[simp] theorem State.raise_ctx (s : State) (r : Fault) : (s.raise r).ctx = s.ctx := rfl
@[simp] theorem State.raise_halted (s : State) (r : Fault) : (s.raise r).halted = s.halted := rfl
@[simp] theorem State.raise_m (s : State) (r : Fault) : (s.raise r).m = s.m := rfl
@[simp] theorem State.raise_i (s : State) (r : Fault) : (s.raise r).i = s.i := rfl
@[simp] theorem State.raise_data (s : State) (r : Fault) : (s.raise r).data = s.data := rfl
@[simp] theorem State.raise_gate (s : State) (r : Fault) : (s.raise r).gate = s.gate := rfl
@[simp] theorem State.raise_fault (s : State) (r : Fault) : (s.raise r).fault = some r := rfl
@[simp] theorem State.raise_pos (s : State) (r : Fault) : (s.raise r).pos = s.pos := rfl
@[simp] theorem State.raise_par (s : State) (r : Fault) : (s.raise r).par = s.par := rfl

/-! `sampleDoor` -/

@[simp] theorem State.sampleDoor_arm (s : State) : s.sampleDoor.arm = s.arm := rfl
@[simp] theorem State.sampleDoor_pending (s : State) : s.sampleDoor.pending = (s.pending || edge s.par.cfg.doorEdge s.doorPrev s.door) := rfl
@[simp] theorem State.sampleDoor_ie (s : State) : s.sampleDoor.ie = s.ie := rfl
@[simp] theorem State.sampleDoor_doorPrev (s : State) : s.sampleDoor.doorPrev = s.door := rfl
@[simp] theorem State.sampleDoor_ctx (s : State) : s.sampleDoor.ctx = s.ctx := rfl
@[simp] theorem State.sampleDoor_halted (s : State) : s.sampleDoor.halted = s.halted := rfl
@[simp] theorem State.sampleDoor_m (s : State) : s.sampleDoor.m = s.m := rfl
@[simp] theorem State.sampleDoor_i (s : State) : s.sampleDoor.i = s.i := rfl
@[simp] theorem State.sampleDoor_data (s : State) : s.sampleDoor.data = s.data := rfl
@[simp] theorem State.sampleDoor_gate (s : State) : s.sampleDoor.gate = s.gate := rfl
@[simp] theorem State.sampleDoor_fault (s : State) : s.sampleDoor.fault = s.fault := rfl
@[simp] theorem State.sampleDoor_pos (s : State) : s.sampleDoor.pos = { s.pos with phase := .run, z := 0, b := 0 } := rfl
@[simp] theorem State.sampleDoor_par (s : State) : s.sampleDoor.par = s.par := rfl

/-! `endTick` -/

@[simp] theorem State.endTick_arm (s : State) : s.endTick.arm = s.arm := rfl
@[simp] theorem State.endTick_pending (s : State) : s.endTick.pending = s.pending := rfl
@[simp] theorem State.endTick_ie (s : State) : s.endTick.ie = s.ie := rfl
@[simp] theorem State.endTick_doorPrev (s : State) : s.endTick.doorPrev = s.doorPrev := rfl
@[simp] theorem State.endTick_ctx (s : State) : s.endTick.ctx = s.ctx := rfl
@[simp] theorem State.endTick_halted (s : State) : s.endTick.halted = s.halted := rfl
@[simp] theorem State.endTick_m (s : State) : s.endTick.m = s.m := rfl
@[simp] theorem State.endTick_i (s : State) : s.endTick.i = s.i := rfl
@[simp] theorem State.endTick_data (s : State) : s.endTick.data = s.data := rfl
@[simp] theorem State.endTick_gate (s : State) : s.endTick.gate = s.gate := rfl
@[simp] theorem State.endTick_fault (s : State) : s.endTick.fault = s.fault := rfl
@[simp] theorem State.endTick_pos (s : State) : s.endTick.pos = { s.pos with t := s.pos.t + 1, phase := .sample } := rfl
@[simp] theorem State.endTick_par (s : State) : s.endTick.par = s.par := rfl

/-! `countOpportunity` -/

@[simp] theorem State.countOpportunity_arm (s : State) : s.countOpportunity.arm = s.arm := rfl
@[simp] theorem State.countOpportunity_pending (s : State) : s.countOpportunity.pending = s.pending := rfl
@[simp] theorem State.countOpportunity_ie (s : State) : s.countOpportunity.ie = s.ie := rfl
@[simp] theorem State.countOpportunity_doorPrev (s : State) : s.countOpportunity.doorPrev = s.doorPrev := rfl
@[simp] theorem State.countOpportunity_ctx (s : State) : s.countOpportunity.ctx = s.ctx := rfl
@[simp] theorem State.countOpportunity_halted (s : State) : s.countOpportunity.halted = s.halted := rfl
@[simp] theorem State.countOpportunity_m (s : State) : s.countOpportunity.m = s.m := rfl
@[simp] theorem State.countOpportunity_i (s : State) : s.countOpportunity.i = s.i := rfl
@[simp] theorem State.countOpportunity_data (s : State) : s.countOpportunity.data = s.data := rfl
@[simp] theorem State.countOpportunity_gate (s : State) : s.countOpportunity.gate = s.gate := rfl
@[simp] theorem State.countOpportunity_fault (s : State) : s.countOpportunity.fault = s.fault := rfl
@[simp] theorem State.countOpportunity_pos (s : State) : s.countOpportunity.pos = { s.pos with b := s.pos.b + 1 } := rfl
@[simp] theorem State.countOpportunity_par (s : State) : s.countOpportunity.par = s.par := rfl

/-! `countOperation` -/

@[simp] theorem State.countOperation_arm (s : State) : s.countOperation.arm = s.arm := rfl
@[simp] theorem State.countOperation_pending (s : State) : s.countOperation.pending = s.pending := rfl
@[simp] theorem State.countOperation_ie (s : State) : s.countOperation.ie = s.ie := rfl
@[simp] theorem State.countOperation_doorPrev (s : State) : s.countOperation.doorPrev = s.doorPrev := rfl
@[simp] theorem State.countOperation_ctx (s : State) : s.countOperation.ctx = s.ctx := rfl
@[simp] theorem State.countOperation_halted (s : State) : s.countOperation.halted = s.halted := rfl
@[simp] theorem State.countOperation_m (s : State) : s.countOperation.m = s.m := rfl
@[simp] theorem State.countOperation_i (s : State) : s.countOperation.i = s.i := rfl
@[simp] theorem State.countOperation_data (s : State) : s.countOperation.data = s.data := rfl
@[simp] theorem State.countOperation_gate (s : State) : s.countOperation.gate = s.gate := rfl
@[simp] theorem State.countOperation_fault (s : State) : s.countOperation.fault = s.fault := rfl
@[simp] theorem State.countOperation_pos (s : State) : s.countOperation.pos = { s.pos with z := s.pos.z + 1 } := rfl
@[simp] theorem State.countOperation_par (s : State) : s.countOperation.par = s.par := rfl

/-! Updates of the live context's record -/

@[simp] theorem State.setCur_arm (s : State) (c : CtxState) : (s.setCur c).arm = s.arm := by
  cases h : s.ctx <;> simp [State.setCur, h]

@[simp] theorem State.setCur_pending (s : State) (c : CtxState) : (s.setCur c).pending = s.pending := by
  cases h : s.ctx <;> simp [State.setCur, h]

@[simp] theorem State.setCur_ie (s : State) (c : CtxState) : (s.setCur c).ie = s.ie := by
  cases h : s.ctx <;> simp [State.setCur, h]

@[simp] theorem State.setCur_doorPrev (s : State) (c : CtxState) : (s.setCur c).doorPrev = s.doorPrev := by
  cases h : s.ctx <;> simp [State.setCur, h]

@[simp] theorem State.setCur_ctx (s : State) (c : CtxState) : (s.setCur c).ctx = s.ctx := by
  cases h : s.ctx <;> simp [State.setCur, h]

@[simp] theorem State.setCur_halted (s : State) (c : CtxState) : (s.setCur c).halted = s.halted := by
  cases h : s.ctx <;> simp [State.setCur, h]

@[simp] theorem State.setCur_data (s : State) (c : CtxState) : (s.setCur c).data = s.data := by
  cases h : s.ctx <;> simp [State.setCur, h]

@[simp] theorem State.setCur_gate (s : State) (c : CtxState) : (s.setCur c).gate = s.gate := by
  cases h : s.ctx <;> simp [State.setCur, h]

@[simp] theorem State.setCur_fault (s : State) (c : CtxState) : (s.setCur c).fault = s.fault := by
  cases h : s.ctx <;> simp [State.setCur, h]

@[simp] theorem State.setCur_pos (s : State) (c : CtxState) : (s.setCur c).pos = s.pos := by
  cases h : s.ctx <;> simp [State.setCur, h]

@[simp] theorem State.setCur_par (s : State) (c : CtxState) : (s.setCur c).par = s.par := by
  cases h : s.ctx <;> simp [State.setCur, h]

@[simp] theorem State.setPc_arm (s : State) (n : Nat) : (s.setPc n).arm = s.arm := by
  simp [State.setPc]

@[simp] theorem State.setPc_pending (s : State) (n : Nat) : (s.setPc n).pending = s.pending := by
  simp [State.setPc]

@[simp] theorem State.setPc_ie (s : State) (n : Nat) : (s.setPc n).ie = s.ie := by
  simp [State.setPc]

@[simp] theorem State.setPc_doorPrev (s : State) (n : Nat) : (s.setPc n).doorPrev = s.doorPrev := by
  simp [State.setPc]

@[simp] theorem State.setPc_ctx (s : State) (n : Nat) : (s.setPc n).ctx = s.ctx := by
  simp [State.setPc]

@[simp] theorem State.setPc_halted (s : State) (n : Nat) : (s.setPc n).halted = s.halted := by
  simp [State.setPc]

@[simp] theorem State.setPc_data (s : State) (n : Nat) : (s.setPc n).data = s.data := by
  simp [State.setPc]

@[simp] theorem State.setPc_gate (s : State) (n : Nat) : (s.setPc n).gate = s.gate := by
  simp [State.setPc]

@[simp] theorem State.setPc_fault (s : State) (n : Nat) : (s.setPc n).fault = s.fault := by
  simp [State.setPc]

@[simp] theorem State.setPc_pos (s : State) (n : Nat) : (s.setPc n).pos = s.pos := by
  simp [State.setPc]

@[simp] theorem State.setPc_par (s : State) (n : Nat) : (s.setPc n).par = s.par := by
  simp [State.setPc]

@[simp] theorem State.setQ_arm (s : State) (q : List Prim) : (s.setQ q).arm = s.arm := by
  simp [State.setQ]

@[simp] theorem State.setQ_pending (s : State) (q : List Prim) : (s.setQ q).pending = s.pending := by
  simp [State.setQ]

@[simp] theorem State.setQ_ie (s : State) (q : List Prim) : (s.setQ q).ie = s.ie := by
  simp [State.setQ]

@[simp] theorem State.setQ_doorPrev (s : State) (q : List Prim) : (s.setQ q).doorPrev = s.doorPrev := by
  simp [State.setQ]

@[simp] theorem State.setQ_ctx (s : State) (q : List Prim) : (s.setQ q).ctx = s.ctx := by
  simp [State.setQ]

@[simp] theorem State.setQ_halted (s : State) (q : List Prim) : (s.setQ q).halted = s.halted := by
  simp [State.setQ]

@[simp] theorem State.setQ_data (s : State) (q : List Prim) : (s.setQ q).data = s.data := by
  simp [State.setQ]

@[simp] theorem State.setQ_gate (s : State) (q : List Prim) : (s.setQ q).gate = s.gate := by
  simp [State.setQ]

@[simp] theorem State.setQ_fault (s : State) (q : List Prim) : (s.setQ q).fault = s.fault := by
  simp [State.setQ]

@[simp] theorem State.setQ_pos (s : State) (q : List Prim) : (s.setQ q).pos = s.pos := by
  simp [State.setQ]

@[simp] theorem State.setQ_par (s : State) (q : List Prim) : (s.setQ q).par = s.par := by
  simp [State.setQ]

@[simp] theorem State.setWait_arm (s : State) (n : Nat) : (s.setWait n).arm = s.arm := by
  simp [State.setWait]

@[simp] theorem State.setWait_pending (s : State) (n : Nat) : (s.setWait n).pending = s.pending := by
  simp [State.setWait]

@[simp] theorem State.setWait_ie (s : State) (n : Nat) : (s.setWait n).ie = s.ie := by
  simp [State.setWait]

@[simp] theorem State.setWait_doorPrev (s : State) (n : Nat) : (s.setWait n).doorPrev = s.doorPrev := by
  simp [State.setWait]

@[simp] theorem State.setWait_ctx (s : State) (n : Nat) : (s.setWait n).ctx = s.ctx := by
  simp [State.setWait]

@[simp] theorem State.setWait_halted (s : State) (n : Nat) : (s.setWait n).halted = s.halted := by
  simp [State.setWait]

@[simp] theorem State.setWait_data (s : State) (n : Nat) : (s.setWait n).data = s.data := by
  simp [State.setWait]

@[simp] theorem State.setWait_gate (s : State) (n : Nat) : (s.setWait n).gate = s.gate := by
  simp [State.setWait]

@[simp] theorem State.setWait_fault (s : State) (n : Nat) : (s.setWait n).fault = s.fault := by
  simp [State.setWait]

@[simp] theorem State.setWait_pos (s : State) (n : Nat) : (s.setWait n).pos = s.pos := by
  simp [State.setWait]

@[simp] theorem State.setWait_par (s : State) (n : Nat) : (s.setWait n).par = s.par := by
  simp [State.setWait]

/-- The live context's record, in the main context. -/
theorem State.cur_main (s : State) (h : s.ctx = .main) : s.cur = s.m := by simp [State.cur, h]

/-- The live context's record, in the interrupt context. -/
theorem State.cur_isr (s : State) (h : s.ctx = .isr) : s.cur = s.i := by simp [State.cur, h]

@[simp] theorem State.setCur_cur (s : State) (c : CtxState) : (s.setCur c).cur = c := by
  cases h : s.ctx <;> simp [State.setCur, State.cur, h]

theorem State.setCur_main (s : State) (c : CtxState) (h : s.ctx = .main) :
    s.setCur c = { s with m := c } := by simp [State.setCur, h]

theorem State.setCur_isr (s : State) (c : CtxState) (h : s.ctx = .isr) :
    s.setCur c = { s with i := c } := by simp [State.setCur, h]

@[simp] theorem State.setPc_cur (s : State) (n : Nat) :
    (s.setPc n).cur = { s.cur with pc := n } := by simp [State.setPc]

theorem State.setPc_main (s : State) (n : Nat) (h : s.ctx = .main) :
    s.setPc n = { s with m := { s.m with pc := n } } := by
  simp [State.setPc, State.setCur_main, State.cur_main, h]

theorem State.setPc_isr (s : State) (n : Nat) (h : s.ctx = .isr) :
    s.setPc n = { s with i := { s.i with pc := n } } := by
  simp [State.setPc, State.setCur_isr, State.cur_isr, h]

@[simp] theorem State.setQ_cur (s : State) (q : List Prim) :
    (s.setQ q).cur = { s.cur with q := q } := by simp [State.setQ]

theorem State.setQ_main (s : State) (q : List Prim) (h : s.ctx = .main) :
    s.setQ q = { s with m := { s.m with q := q } } := by
  simp [State.setQ, State.setCur_main, State.cur_main, h]

theorem State.setQ_isr (s : State) (q : List Prim) (h : s.ctx = .isr) :
    s.setQ q = { s with i := { s.i with q := q } } := by
  simp [State.setQ, State.setCur_isr, State.cur_isr, h]

@[simp] theorem State.setWait_cur (s : State) (n : Nat) :
    (s.setWait n).cur = { s.cur with wait := n } := by simp [State.setWait]

theorem State.setWait_main (s : State) (n : Nat) (h : s.ctx = .main) :
    s.setWait n = { s with m := { s.m with wait := n } } := by
  simp [State.setWait, State.setCur_main, State.cur_main, h]

theorem State.setWait_isr (s : State) (n : Nat) (h : s.ctx = .isr) :
    s.setWait n = { s with i := { s.i with wait := n } } := by
  simp [State.setWait, State.setCur_isr, State.cur_isr, h]

end Sys2Proof.Machine
end

