-- ==== Sys2Proof/Laws/Ops.lean ====
section
/-! SUPPORT. What the shared operations can do, each said once: the fetch, the loop body and the step,
and what admission (R95) gives a fetched word. -/

namespace Sys2Proof.Machine

/-! Admission -/

theorem decodeAll_length {p : List Word} {is : List Instr} (h : decodeAll p = some is) :
    is.length = p.length := by
  induction p generalizing is with
  | nil => simp_all [decodeAll]
  | cons w ws ih =>
    unfold decodeAll at h
    split at h
    · rename_i j js _ hjs
      obtain rfl : j :: js = is := by simpa using h
      simp [ih hjs]
    · cases h

/-- In a program whose words all decode, every word gives one of its operations. -/
theorem decodeAll_mem {p : List Word} {is : List Instr} (h : decodeAll p = some is) {w : Word}
    (hw : w ∈ p) : ∃ i, decode w = .op i ∧ i ∈ is := by
  induction p generalizing is with
  | nil => cases hw
  | cons v ws ih =>
    unfold decodeAll at h
    split at h
    · rename_i j js hj hjs
      obtain rfl : j :: js = is := by simpa using h
      rcases List.mem_cons.mp hw with rfl | hw
      · exact ⟨j, hj, by simp⟩
      · obtain ⟨i, hi, hm⟩ := ih hjs hw
        exact ⟨i, hi, by simp [hm]⟩
    · cases h

/-- The program of a context (R61). -/
def Params.programOf (p : Params) : CtxId → List Word
  | .main => p.progM
  | .isr => p.progI

theorem State.program_eq (s : State) : s.program = s.par.programOf s.ctx := by
  cases h : s.ctx <;> simp [State.program, Params.programOf, h]

/-- What WF1 to WF4 say of an admitted pair of programs (R93, R94, R95). -/
theorem refusal_none_ops {p : Params} (h : p.refusal = none) (c : CtxId) :
    ∃ is, decodeAll (p.programOf c) = some is ∧ is.all (Instr.admittedIn c) = true ∧
      is.all (Instr.targetBelow is.length) = true ∧ 1 ≤ is.length ∧ is.length ≤ 4096 := by
  simp only [Params.refusal] at h
  split at h
  · cases h
  · simp only [Option.map_eq_none_iff, programFlaw] at h
    split at h
    · rename_i m i hm hi
      split at h
      · cases h
      split at h
      · cases h
      split at h
      · cases h
      rename_i h1 h2 h3
      simp only [contextsAdmitted, targetsInRange, lengthInRange, Bool.not_eq_false,
        Bool.and_eq_true, decide_eq_true_eq] at h1 h2 h3
      cases c
      · exact ⟨m, hm, h1.1, h2.1, h3.1.1, h3.1.2⟩
      · exact ⟨i, hi, h1.2, h2.2, h3.2.1, h3.2.2⟩
    · cases h

/-- An admitted run's configuration is in R8's ranges. -/
theorem refusal_none_config {p : Params} (h : p.refusal = none) : configInRange p.cfg = true := by
  simp only [Params.refusal] at h
  split at h
  · cases h
  · rename_i hc
    simpa using hc

/-- A word an admitted run can fetch decodes, to an operation of its context with its target in
range (R122: "never Invalid"). -/
theorem fetched_op {p : Params} (h : p.refusal = none) {c : CtxId} {k : Nat} {w : Word}
    (hw : (p.programOf c)[k]? = some w) :
    ∃ i, decode w = .op i ∧ i.admittedIn c = true ∧
      i.targetBelow (p.programOf c).length = true := by
  obtain ⟨is, hd, ha, ht, -, -⟩ := refusal_none_ops h c
  obtain ⟨i, hi, hm⟩ := decodeAll_mem hd (List.mem_of_getElem? hw)
  rw [decodeAll_length hd] at ht
  exact ⟨i, hi, List.all_eq_true.mp ha i hm, List.all_eq_true.mp ht i hm⟩

/-! Operations -/

/-- Every operation answers a next state: no operation traps (R260). -/
theorem exec_answers (i : Instr) (s : State) : ∃ t, exec i s = .next t := by
  cases i <;> exact ⟨_, rfl⟩

/-- A branch writes a pc alone. -/
theorem exec_branchIf_par (s : State) (b : Bool) (t : Index) : (s.branchIf b t).par = s.par := by
  cases b <;> simp [State.branchIf]

theorem exec_branchIf_pos (s : State) (b : Bool) (t : Index) : (s.branchIf b t).pos = s.pos := by
  cases b <;> simp [State.branchIf]

/-- No operation writes the parameters of the run (R20, R69). -/
theorem exec_par {i : Instr} {s t : State} (h : exec i s = .next t) : t.par = s.par := by
  cases i with
  | mode d g m =>
    obtain rfl : _ = t := Host.Outcome.next.inj h
    cases d <;> cases g <;> simp [modeData, modeGate]
  | lvl v =>
    obtain rfl : _ = t := Host.Outcome.next.inj h
    simp [execPrim]
  | bna tgt =>
    obtain rfl : _ = t := Host.Outcome.next.inj h
    exact exec_branchIf_par ..
  | bdo tgt =>
    obtain rfl : _ = t := Host.Outcome.next.inj h
    exact exec_branchIf_par ..
  | _ =>
    obtain rfl : _ = t := Host.Outcome.next.inj h
    simp

/-- No operation moves the position in the tick: operations take no time (R121). -/
theorem exec_pos {i : Instr} {s t : State} (h : exec i s = .next t) : t.pos = s.pos := by
  cases i with
  | mode d g m =>
    obtain rfl : _ = t := Host.Outcome.next.inj h
    cases d <;> cases g <;> simp [modeData, modeGate]
  | lvl v =>
    obtain rfl : _ = t := Host.Outcome.next.inj h
    simp [execPrim]
  | bna tgt =>
    obtain rfl : _ = t := Host.Outcome.next.inj h
    exact exec_branchIf_pos ..
  | bdo tgt =>
    obtain rfl : _ = t := Host.Outcome.next.inj h
    exact exec_branchIf_pos ..
  | _ =>
    obtain rfl : _ = t := Host.Outcome.next.inj h
    simp

@[simp] theorem execPrim_par (p : Prim) (s : State) : (execPrim p s).par = s.par := by
  cases p <;> simp [execPrim]

@[simp] theorem execPrim_pos (p : Prim) (s : State) : (execPrim p s).pos = s.pos := by
  cases p <;> simp [execPrim]

/-! What counting in the tick leaves as it was -/

@[simp] theorem State.countOperation_cur (s : State) : s.countOperation.cur = s.cur := rfl
@[simp] theorem State.countOpportunity_cur (s : State) : s.countOpportunity.cur = s.cur := rfl
@[simp] theorem State.countOperation_program (s : State) : s.countOperation.program = s.program := rfl
@[simp] theorem State.countOpportunity_program (s : State) :
    s.countOpportunity.program = s.program := rfl
@[simp] theorem State.countOpportunity_idles (s : State) : s.countOpportunity.idles = s.idles := rfl

/-- There is an opportunity only in the main context, with `pending` and `ie` set (R265). -/
theorem opportunity_iff (s : State) :
    s.opportunity = true ↔ s.ctx = .main ∧ s.pending = true ∧ s.ie = true := by
  cases h : s.ctx <;> simp [State.opportunity, h]

/-- The main context idles exactly when it is halted (R121). -/
theorem idles_iff (s : State) : s.idles = true ↔ s.ctx = .main ∧ s.halted = true := by
  cases h : s.ctx <;> simp [State.idles, h]

/-- What a fetch can do in an admitted run (R122): past the end it records PcOutOfRange; else it runs
the operation of the word at the pc, one that its context admits. -/
theorem fetchExec_cases {s : State} (h : s.par.refusal = none) :
    (s.program.length ≤ s.cur.pc ∧ fetchExec s = .next (s.raise .pcOutOfRange)) ∨
    ∃ w i t, s.program[s.cur.pc]? = some w ∧ decode w = .op i ∧ i.admittedIn s.ctx = true ∧
      i.targetBelow s.program.length = true ∧ exec i (s.setPc (s.cur.pc + 1)) = .next t ∧
      fetchExec s = .next t := by
  unfold fetchExec
  cases hw : s.program[s.cur.pc]? with
  | none => exact .inl ⟨List.getElem?_eq_none_iff.mp hw, rfl⟩
  | some w =>
    rw [State.program_eq] at hw ⊢
    obtain ⟨i, hi, ha, ht⟩ := fetched_op h hw
    obtain ⟨t, he⟩ := exec_answers i (s.setPc (s.cur.pc + 1))
    exact .inr ⟨w, i, t, rfl, hi, ha, ht, he, by simp [hi, he]⟩

/-- What the loop body can do in an admitted run (R121). -/
theorem loopBody_cases (s : State) :
    (0 < s.cur.wait ∧ loopBody s = .next s.spendTick) ∨
    (s.cur.wait = 0 ∧ s.idles = true ∧ loopBody s = .next s.endTick) ∨
    (s.cur.wait = 0 ∧ s.idles = false ∧ s.par.cfg.maxZt < s.pos.z + 1 ∧
      loopBody s = .next (s.raise .zeroTimeLoop)) ∨
    (s.cur.wait = 0 ∧ s.idles = false ∧ s.pos.z + 1 ≤ s.par.cfg.maxZt ∧
      ∃ p ps, s.cur.q = p :: ps ∧
        loopBody s = .next (execPrim p (s.countOperation.setQ ps))) ∨
    (s.cur.wait = 0 ∧ s.idles = false ∧ s.pos.z + 1 ≤ s.par.cfg.maxZt ∧ s.cur.q = [] ∧
      loopBody s = fetchExec s.countOperation) := by
  by_cases hw : 0 < s.cur.wait
  · exact .inl ⟨hw, by simp [loopBody, hw]⟩
  have hw0 : s.cur.wait = 0 := by omega
  cases hi : s.idles with
  | true => exact .inr (.inl ⟨hw0, rfl, by simp [loopBody, hw0, hi]⟩)
  | false =>
    by_cases hz : s.par.cfg.maxZt < s.pos.z + 1
    · exact .inr (.inr (.inl ⟨hw0, rfl, hz, by simp [loopBody, hw0, hi, hz]⟩))
    · have hz' : s.pos.z + 1 ≤ s.par.cfg.maxZt := by omega
      cases hq : s.cur.q with
      | cons p ps =>
        exact .inr (.inr (.inr (.inl ⟨hw0, rfl, hz', p, ps, rfl, by
          simp [loopBody, hw0, hi, hz, runOne, hq]⟩)))
      | nil =>
        exact .inr (.inr (.inr (.inr ⟨hw0, rfl, hz', rfl, by
          simp [loopBody, hw0, hi, hz, runOne, hq]⟩)))

/-- What a step can do: nothing on a recorded fault; a refusal where the run is not admitted; phase 1;
a delivery; or the loop body, with the opportunity counted where there was one. -/
theorem step_cases (s : State) :
    (s.fault.isSome = true ∧ step s = .next s) ∨
    (s.fault = none ∧ ∃ r, s.par.refusal = some r ∧ step s = .refused r) ∨
    (s.fault = none ∧ s.par.refusal = none ∧
      ((s.pos.phase = .sample ∧ step s = .next s.sampleDoor) ∨
       (s.pos.phase = .run ∧ s.opportunity = true ∧ s.delivers = true ∧
          step s = .next s.countOpportunity.deliver) ∨
       (s.pos.phase = .run ∧ s.opportunity = true ∧ s.delivers = false ∧
          step s = loopBody s.countOpportunity) ∨
       (s.pos.phase = .run ∧ s.opportunity = false ∧ step s = loopBody s))) := by
  unfold step blockStep
  cases hf : s.fault with
  | some r => exact .inl ⟨rfl, rfl⟩
  | none =>
    cases hr : s.par.refusal with
    | some r => exact .inr (.inl ⟨rfl, r, rfl, rfl⟩)
    | none =>
      refine .inr (.inr ⟨rfl, rfl, ?_⟩)
      cases hp : s.pos.phase with
      | sample => exact .inl ⟨rfl, rfl⟩
      | run =>
        cases ho : s.opportunity with
        | false => exact .inr (.inr (.inr ⟨rfl, rfl, by simp [loopStep, ho]⟩))
        | true =>
          cases hd : s.delivers with
          | true => exact .inr (.inl ⟨rfl, rfl, rfl, by simp [loopStep, ho, hd]⟩)
          | false => exact .inr (.inr (.inl ⟨rfl, rfl, rfl, by simp [loopStep, ho, hd]⟩))

/-- A step inside a tick of an admitted, unfaulted run is one pass of the run loop (R121). -/
theorem step_run {s : State} (hf : s.fault = none) (hr : s.par.refusal = none)
    (hp : s.pos.phase = .run) : step s = loopStep s := by simp [step, blockStep, hf, hr, hp]

/-- A pass that delivers nothing is the loop body, with the opportunity counted where there was one:
the live context neither waits nor idles, and no draw is true (R121, R265). -/
theorem loopStep_no_delivery {s : State} (h : s.opportunity = false ∨ s.draw = false)
    (hw : s.cur.wait = 0) (hh : s.ctx = .main → s.halted = false) :
    loopStep s = loopBody { s with pos := { s.pos with
      b := if s.opportunity = true then s.pos.b + 1 else s.pos.b } } := by
  cases ho : s.opportunity with
  | false => simp [loopStep, ho]
  | true =>
    have hd := h.resolve_left (by simp [ho])
    have hc := ((opportunity_iff s).mp ho).1
    have hw : s.m.wait = 0 := by simpa [State.cur_main _ hc] using hw
    have : s.delivers = false := by simp [State.delivers, State.mustDeliver, hd, hh hc, hw]
    simp [loopStep, ho, this]
    rfl

/-- Waiting in the main context, the interrupt is forced (R265). -/
theorem delivers_of_wait (s : State) (h : 0 < s.m.wait) : s.delivers = true := by
  simp [State.delivers, State.mustDeliver, h]

/-- A tick ends at the first pass that leaves the loop (R121). -/
theorem tickLoop_left {n : Nat} {s t : State} (h : tickPass s = .next t) (hl : t.leftLoop = true) :
    tickLoop (n + 1) s = .next t := by simp [tickLoop, h, hl]

/-- A pass that does not leave the loop is followed by the next (R121). -/
theorem tickLoop_next {n : Nat} {s t : State} (h : tickPass s = .next t) (hl : t.leftLoop = false) :
    tickLoop (n + 1) s = tickLoop n t := by simp [tickLoop, h, hl]

/-- A tick of an admitted, unfaulted run is phase 1 and then the loop (R121). -/
theorem tick_admitted {s : State} (hf : s.fault = none) (hr : s.par.refusal = none) :
    tick s = tickLoop (s.par.cfg.maxZt + 1) s.sampleDoor := by simp [tick, hf, hr]

end Sys2Proof.Machine
end

