-- ==== Sys2Proof/Laws/PerInstr.lean ====
section
/-! SUPPORT. Statements about every operation as syntax, one lemma a constructor. -/

namespace Sys2Proof

/-- The opcode column of R83. -/
def opcodeNumber : Instr → Nat
  | .wait _ => 0x0
  | .lvl _ => 0x1
  | .mode _ _ _ => 0x2
  | .send _ => 0x3
  | .cycle _ _ => 0x4
  | .bna _ => 0x5
  | .jmp _ => 0x6
  | .armset => 0x7
  | .armclr => 0x8
  | .halt => 0x9
  | .clrpend => 0xA
  | .idis => 0xB
  | .ien => 0xC
  | .bdo _ => 0xD
  | .reti => 0xE

/-- The encoder puts R83's opcode of the operation into `w[15:12]`. -/
def Laws.OpcodeField.Statement (i : Instr) : Prop := opcodeOf (encode i) = opcodeNumber i

theorem Laws.OpcodeField.wait (n : Ms) : Laws.OpcodeField.Statement (.wait n) :=
  opcodeOf_append 0x0 n

theorem Laws.OpcodeField.lvl (v : Level) : Laws.OpcodeField.Statement (.lvl v) :=
  opcodeOf_append _ _

theorem Laws.OpcodeField.mode (d g : Bool) (m : LineMode) :
    Laws.OpcodeField.Statement (.mode d g m) :=
  opcodeOf_append _ _

theorem Laws.OpcodeField.send (b : Byte) : Laws.OpcodeField.Statement (.send b) :=
  opcodeOf_append _ _

theorem Laws.OpcodeField.cycle (p : Profile) (r : BitVec 9) :
    Laws.OpcodeField.Statement (.cycle p r) := opcodeOf_append _ _

theorem Laws.OpcodeField.bna (t : Index) : Laws.OpcodeField.Statement (.bna t) :=
  opcodeOf_append 0x5 t

theorem Laws.OpcodeField.jmp (t : Index) : Laws.OpcodeField.Statement (.jmp t) :=
  opcodeOf_append 0x6 t

theorem Laws.OpcodeField.armset : Laws.OpcodeField.Statement .armset := rfl

theorem Laws.OpcodeField.armclr : Laws.OpcodeField.Statement .armclr := rfl

theorem Laws.OpcodeField.halt : Laws.OpcodeField.Statement .halt := rfl

theorem Laws.OpcodeField.clrpend : Laws.OpcodeField.Statement .clrpend := rfl

theorem Laws.OpcodeField.idis : Laws.OpcodeField.Statement .idis := rfl

theorem Laws.OpcodeField.ien : Laws.OpcodeField.Statement .ien := rfl

theorem Laws.OpcodeField.bdo (t : Index) : Laws.OpcodeField.Statement (.bdo t) :=
  opcodeOf_append 0xD t

theorem Laws.OpcodeField.reti : Laws.OpcodeField.Statement .reti := rfl

end Sys2Proof
end

