-- ==== Sys2Proof/Machine/Asm.lean ====
section
/-! DEFINITION. The assembler of R91 and R92, from parsed lines to words (log 22: the reading of
characters into tokens is left out; the spec gives the forms, not a lexer). -/

namespace Sys2Proof.Machine

/-- A target operand: a label or a number (R91). -/
inductive AsmTarget where
  | label (name : String)
  | number (n : Nat)
  deriving DecidableEq, Repr

/-- A character operand: a letter or a number 0..255 (R91). -/
inductive AsmChar where
  | letter (c : Chr)
  | number (n : Nat)
  deriving DecidableEq, Repr

/-- A lines operand: `DATA`, `GATE`, `DATA|GATE` (R91). -/
inductive AsmLines where
  | data
  | gate
  | both
  deriving DecidableEq, Repr

/-- A statement: an operation of R91 with its operands in R91's order, or a pseudo-instruction of
R92. -/
inductive AsmStmt where
  | wait (n : Nat)
  | lvl (v : Level)
  | mode (ls : AsmLines) (m : LineMode)
  | send (ch : AsmChar)
  | cycle (p : Profile) (r : Nat)
  | bna (t : AsmTarget)
  | jmp (t : AsmTarget)
  | bdo (t : AsmTarget)
  | armset
  | armclr
  | halt
  | clrpend
  | idis
  | ien
  | reti
  | nop
  | hiz (ls : AsmLines)
  | drvl (ls : AsmLines)
  | high
  | low
  deriving DecidableEq, Repr

/-- A line: `[label:] MNEMONIC [operands]` (R91). -/
structure AsmLine where
  label : Option String := none
  stmt : AsmStmt
  deriving DecidableEq, Repr

/-- A number operand, which "must fit its field" (R91). -/
def asmNumber (bits n : Nat) : Option (BitVec bits) :=
  if n < 2 ^ bits then some (BitVec.ofNat bits n) else none

/-- The index a label names: that of the line it stands before (R91). -/
def asmLabel (ls : List AsmLine) (name : String) : Option Nat :=
  ls.findIdx? (fun l => decide (l.label = some name))

/-- A target operand's value: an absolute operation index (R91). -/
def asmTarget (ls : List AsmLine) : AsmTarget → Option Index
  | .number n => asmNumber 12 n
  | .label name => (asmLabel ls name).bind (asmNumber 12)

/-- A character operand's value: `CODE(c)` for a letter (R82, R91). -/
def asmChar (c : Config) : AsmChar → Option Byte
  | .letter ch => some (code c ch)
  | .number n => asmNumber 8 n

/-- A lines operand as the DATA bit (R91: `a[1:0]` = 01, 10, 11). -/
def asmData : AsmLines → Bool
  | .gate => false
  | _ => true

/-- A lines operand as the GATE bit (R91). -/
def asmGate : AsmLines → Bool
  | .data => false
  | _ => true

/-- The operation of a statement (R91), a pseudo-instruction by its expansion (R92). -/
def asmInstr (c : Config) (ls : List AsmLine) : AsmStmt → Option Instr
  | .wait n => (asmNumber 12 n).map .wait
  | .lvl v => some (.lvl v)
  | .mode l m => some (.mode (asmData l) (asmGate l) m)
  | .send ch => (asmChar c ch).map .send
  | .cycle p r => (asmNumber 9 r).map (.cycle p)
  | .bna t => (asmTarget ls t).map .bna
  | .jmp t => (asmTarget ls t).map .jmp
  | .bdo t => (asmTarget ls t).map .bdo
  | .armset => some .armset
  | .armclr => some .armclr
  | .halt => some .halt
  | .clrpend => some .clrpend
  | .idis => some .idis
  | .ien => some .ien
  | .reti => some .reti
  | .nop => some Instr.pseudoNop
  | .hiz l => some (Instr.pseudoHiz (asmData l) (asmGate l))
  | .drvl l => some (Instr.pseudoDrvl (asmData l) (asmGate l))
  | .high => some Instr.pseudoHigh
  | .low => some Instr.pseudoLow

/-- The words of some of a program's lines, labels taken from all of them. -/
def asmWords (c : Config) (all : List AsmLine) : List AsmLine → Option (List Word)
  | [] => some []
  | l :: ls =>
    match asmInstr c all l.stmt, asmWords c all ls with
    | some i, some ws => some (encode i :: ws)
    | _, _ => none

/-- A program's words (R91, R92). -/
def assemble (c : Config) (ls : List AsmLine) : Option (List Word) := asmWords c ls ls

end Sys2Proof.Machine
end

