-- ==== Sys2Proof/Tests/Slice0.lean ====
section
/-! SUPPORT. Tests: words and results written out from the spec's tables and from 95_test_vectors.md, a
smoke test of the well-formedness checks, and a witness for the hypotheses of each statement. -/

namespace Sys2Proof.Tests

open Sys2Proof.Machine

/-! Decoding, one word a constructor, bits written out from the rows of R83 -/

theorem test_decode_wait : decode 0b0000_000000110010 = .op (.wait 50) := by decide
theorem test_decode_wait_longest : decode 0x0FFF = .op (.wait 4095) := by decide
theorem test_decode_lvl : decode 0b0001_00000000000_1 = .op (.lvl .high) := by decide
theorem test_decode_lvl_reserved : decode 0x1002 = .invalid .reservedBits := by decide
theorem test_decode_mode : decode 0b0010_000000000_1_0_1 = .op (.mode true false .driveLow) := by decide
theorem test_decode_mode_gate : decode 0b0010_000000000_1_1_0 = .op (.mode false true .driveLow) := by
  decide
theorem test_decode_mode_reserved : decode 0x2008 = .invalid .reservedBits := by decide
theorem test_decode_mode_no_line : decode 0x2004 = .invalid .noLine := by decide
theorem test_decode_send : decode 0b0011_0000_01010011 = .op (.send 0x53) := by decide
theorem test_decode_send_reserved : decode 0x3153 = .invalid .reservedBits := by decide
theorem test_decode_cycle : decode 0b0100_000011110_100 = .op (.cycle .debug 30) := by decide
theorem test_decode_cycle_reserved :
    decode 0x400D = .invalid .profile ∧ decode 0x4001 = .invalid .zeroRepetitions := by decide
theorem test_decode_bna : decode 0b0101_000000001001 = .op (.bna 9) := by decide
theorem test_decode_jmp : decode 0b0110_000000000000 = .op (.jmp 0) := by decide
theorem test_decode_armset : decode 0b0111_000000000000 = .op .armset := by decide
theorem test_decode_armset_reserved : decode 0x7001 = .invalid .reservedBits := by decide
theorem test_decode_armclr : decode 0b1000_000000000000 = .op .armclr := by decide
theorem test_decode_halt : decode 0b1001_000000000000 = .op .halt := by decide
theorem test_decode_clrpend : decode 0b1010_000000000000 = .op .clrpend := by decide
theorem test_decode_idis : decode 0b1011_000000000000 = .op .idis := by decide
theorem test_decode_ien : decode 0b1100_000000000000 = .op .ien := by decide
theorem test_decode_bdo : decode 0b1101_000000000111 = .op (.bdo 7) := by decide
theorem test_decode_reti : decode 0b1110_000000000000 = .op .reti := by decide
theorem test_decode_reti_reserved : decode 0xE800 = .invalid .reservedBits := by decide
theorem test_decode_opcode_f : decode 0xF000 = .invalid .opcode ∧ decode 0xFFFF = .invalid .opcode := by
  decide
theorem test_decode_table_word : decodeTableWord 16 0xD007 = some (.bdo 7) := by decide

/-! Well-formedness: an ill-formed term for each check, and admission (95_test_vectors.md 2.1) -/

theorem test_wf_refuses_mode_no_line : (Instr.mode false false .driveLow).wf = false := by decide
theorem test_wf_refuses_cycle_zero : (Instr.cycle .na 0).wf = false := by decide
theorem test_wf_refuses_context : Instr.armset.admittedIn .main = false := by decide
theorem test_wf_refuses_target : (Instr.jmp 11).targetBelow 11 = false := by decide
theorem test_wf_accepts : (Instr.cycle .na 511).wf = true ∧ (Instr.jmp 10).targetBelow 11 = true := by
  decide

/-- A configuration of 95_test_vectors.md: R = 1, NA, Disarmed. -/
def cfg : Config := { r := 1, profile := .na, armReset := false }

/-- V-EN-29 to V-EN-34. -/
theorem test_admission :
    programFlaw (fixedMain cfg) fixedIsr = none ∧
    programFlaw (fixedMain cfg) [0xA000, 0xC000] = some .noReti ∧
    programFlaw [0x7000, 0x9000] fixedIsr = some .wrongContext ∧
    programFlaw (fixedMain cfg) [0x3053, 0xE000] = some .wrongContext ∧
    programFlaw ((fixedMain cfg).set 10 0x600B) fixedIsr = some .targetOutOfRange ∧
    programFlaw [0x4001] fixedIsr = some .reservedWord ∧
    programFlaw [] fixedIsr = some .badLength := by decide

/-- R8, D13, D17: R = 0 and MAX_ZT < 32 are refused. -/
theorem test_config_ranges :
    configInRange cfg = true ∧ configInRange { cfg with r := 0 } = false ∧
    configInRange { cfg with tpm := 0 } = false ∧ configInRange { cfg with maxZt := 31 } = false := by
  decide

/-- R96: word 6 is 0x40F0 to 0x40F4 with R = 30. -/
theorem test_fixed_cycle_word :
    (fixedMain { cfg with r := 30, profile := .all })[6]? = some 0x40F0 ∧
    (fixedMain { cfg with r := 30, profile := .debug })[6]? = some 0x40F4 ∧
    (fixedMain cfg)[6]? = some 0x4009 := by decide

/-- The program P3 of 95_test_vectors.md, assembled with a label. -/
theorem test_assemble :
    assemble cfg
      [{ stmt := .low }, { stmt := .send (.letter .S) }, { stmt := .hiz .data },
       { label := some "again", stmt := .halt }, { stmt := .jmp (.label "again") }] =
      some [0x1000, 0x3053, 0x2001, 0x9000, 0x6003] := by decide

/-- "unsigned, must fit its field" (R91). -/
theorem test_assemble_does_not_fit : assemble cfg [{ stmt := .wait 4096 }] = none := by decide

/-! Frames, the table of R82 and V-BE-6 -/

theorem test_frame_s :
    frame 0x53 =
      [.high, .low, .low, .high, .high, .low, .high, .low, .high, .low, .low] := by decide
theorem test_frame_a5 :
    frame 0xA5 =
      [.high, .low, .high, .low, .high, .high, .low, .high, .low, .low, .low] := by decide
theorem test_frame_decodes : frameByte (frame 0x80) = 0x80 := by decide

/-! Operations, one step each -/

/-- The block in phase 2 of tick 0, door levels listed, no draw listed. -/
def st (door : List Bool) : State :=
  { State.resetWith cfg { door := door } with pos := { phase := .run } }

/-- The same with PROG_M given. -/
def stWith (progM : List Word) (door : List Bool) : State :=
  { st door with par := { (st door).par with progM := progM } }

/-- The same in the interrupt context at an index, with delivery enabled or not. -/
def isrAt (pc : Nat) (door : List Bool) : State :=
  { st door with ctx := .isr, i := { pc := pc }, m := { pc := 10 } }

/-- A field of the next state. -/
def next {α : Type} (f : State → α) : Answer → Option α
  | .next s => some (f s)
  | _ => none

/-- The refusal of an answer. -/
def refusal : Answer → Option Refusal
  | .refused r => some r
  | _ => none

theorem test_wait_loads_ticks :
    next (fun s => s.m.wait) (exec (.wait 50) { st [] with par := { (st []).par with cfg := { cfg with tpm := 3 } } })
      = some 150 := by decide

/-- V-BE-12. -/
theorem test_lvl_leaves_hiz : next (fun s => s.data) (exec (.lvl .high) (st [])) = some .driveHigh := by
  decide

/-- V-IN-4. -/
theorem test_mode_gate_only :
    next (fun s => (s.data, s.gate)) (exec (.mode false true .driveLow) { st [] with data := .driveHigh })
      = some (.driveHigh, .driveLow) := by decide
theorem test_mode_both_release :
    next (fun s => (s.data, s.gate))
      (exec (.mode true true .hiz) { st [] with data := .driveHigh, gate := .driveLow })
      = some (.hiZ, .hiZ) := by decide

/-- V-BE-1: the primitives of 'S', 20 of them. -/
theorem test_send_queues_s :
    next (fun s => (s.m.q.length, levelsOf s.m.q)) (exec (.send 0x53) (st [])) =
      some (20, [.high, .low, .low, .high, .high, .low, .high, .low, .high, .low]) := by decide

/-- V-SQ-2: the All groups are S,C,E,A S,C,E,E S,C,E,I S,C,E,W. -/
theorem test_group_streams :
    sentBytes (expandGroup cfg .all 4) = [0x53, 0x43, 0x45, 0x41] ∧
    sentBytes (expandGroup cfg .all 3) = [0x53, 0x43, 0x45, 0x45] ∧
    sentBytes (expandGroup cfg .all 2) = [0x53, 0x43, 0x45, 0x49] ∧
    sentBytes (expandGroup cfg .all 1) = [0x53, 0x43, 0x45, 0x57] := by decide

/-- R171: the first primitives CYCLE queues are those of 'S', and the first group is k = 4. -/
theorem test_cycle_queues :
    next (fun s => s.m.q.take 81) (exec (.cycle .all 1) (st [])) = some (expandGroup cfg .all 4) := by
  decide

/-- V-SQ-5: EUR sends 'E' four times. -/
theorem test_cycle_eur_selectors :
    (sel cfg .eur 4, sel cfg .eur 1, sel cfg .jpn 2, sel cfg .debug 3) = (0x45, 0x45, 0x49, 0x57) := by
  decide

/-- V-IN-5. -/
theorem test_bna_disarmed_branches :
    next (fun s => s.m.pc) (exec (.bna 9) (st [])) = some 9 := by decide
theorem test_bna_armed_falls_through :
    next (fun s => s.m.pc) (exec (.bna 9) { st [] with arm := true }) = some 0 := by decide
theorem test_jmp_own_context :
    next (fun s => (s.m.pc, s.i.pc)) (exec (.jmp 3) (isrAt 5 [])) = some (10, 3) := by decide

/-- V-IN-6. -/
theorem test_armclr : next (fun s => s.arm) (exec .armclr { st [] with arm := true }) = some false := by
  decide
theorem test_armset : next (fun s => s.arm) (exec .armset (isrAt 5 [])) = some true := by decide
theorem test_halt : next (fun s => s.halted) (exec .halt (st [])) = some true := by decide
theorem test_clrpend :
    next (fun s => s.pending) (exec .clrpend { isrAt 0 [] with pending := true }) = some false := by decide
theorem test_idis : next (fun s => s.ie) (exec .idis (isrAt 2 [])) = some false := by decide
theorem test_ien : next (fun s => s.ie) (exec .ien { isrAt 6 [] with ie := false }) = some true := by
  decide

/-- The example of R193: closed falls through, open goes to 7. -/
theorem test_bdo_closed : next (fun s => s.i.pc) (exec (.bdo 7) (isrAt 2 [false])) = some 2 := by decide
theorem test_bdo_open : next (fun s => s.i.pc) (exec (.bdo 7) (isrAt 2 [true])) = some 7 := by decide
theorem test_reti : next (fun s => (s.ctx, s.m.pc)) (exec .reti (isrAt 7 [])) = some (.main, 10) := by
  decide

/-! Steps -/

/-- R303: from reset, tick 0's phase 1 latches nothing (door_prev = door(0)). -/
theorem test_first_step_samples :
    next (fun s => (s.pending, s.pos.phase)) (step (State.resetWith cfg { door := [false] })) =
      some (false, .run) := by decide

/-- R190: open to closed is a falling edge; closed to open is not, but is a change. -/
theorem test_edges :
    edge .falling true false = true ∧ edge .falling false true = false ∧
    edge .anyChange false true = true ∧ edge .anyChange true true = false := by decide

/-- R121: the fetched operation of the fixed PROG_M at reset, disarmed, is BNA 9, taken. -/
theorem test_step_runs_bna :
    next (fun s => (s.m.pc, s.pos.z)) (step (st [true])) = some (9, 1) := by decide

/-- V-IN-7 and R264: a halted block with `pending` and `ie` takes the interrupt. -/
theorem test_step_takes_interrupt :
    next (fun s => (s.ctx, s.i.pc, s.halted, s.pending, s.ie, s.m.pc))
      (step { st [true] with halted := true, pending := true, m := { pc := 10 } }) =
      some (.isr, 0, false, true, true, 10) := by decide

/-- R265: a false draw between two operations lets the main context go on. -/
theorem test_step_draw_false :
    next (fun s => (s.ctx, s.m.pc, s.pos.b))
      (step { st [true] with
        pending := true, par := { (st [true]).par with inputs := { draws := [[false]] } } }) =
      some (.main, 9, 1) := by decide

/-- V-CM-3: the interrupt is forced before the main context's next waiting tick. -/
theorem test_step_wait_forces_delivery :
    next (fun s => (s.ctx, s.m.wait)) (step { st [] with pending := true, m := { pc := 2, wait := 7 } }) =
      some (.isr, 7) := by decide

/-- V-CM-4: the operation past MAX_ZT is not run; the fault is recorded. -/
theorem test_step_zero_time_loop :
    next (fun s => (s.fault, s.m.pc)) (step { st [] with pos := { phase := .run, z := 1024 } }) =
      some (some .zeroTimeLoop, 0) := by decide

/-- V-CM-5: past the end of `[WAIT 1]`, with the pc frozen at 1. -/
theorem test_step_pc_out_of_range :
    next (fun s => (s.fault, s.m.pc)) (step { stWith [0x0001] [] with m := { pc := 1 } }) =
      some (some .pcOutOfRange, 1) := by decide

/-- R35: the fault stays, and so does the rest. -/
theorem test_step_fault_absorbs :
    next id (step { st [true] with fault := some .pcOutOfRange }) =
      some { st [true] with fault := some .pcOutOfRange } := by decide

/-- V-EN-31: a pair of programs that R95 does not admit is refused before it runs. -/
theorem test_step_refuses_program :
    refusal (step (stWith [0x7000, 0x9000] [])) = some (.programNotAdmitted .wrongContext) := by decide

/-- V-IN-2: tick 0, disarmed: BNA taken, HALT, idle; out(0) = (HiZ, HiZ, Disarmed). -/
theorem test_first_tick_disarmed :
    next (fun s => (s.report, s.halted, s.m.pc, s.quiescent))
      (tick (State.resetWith cfg { door := [true] })) =
      some (.out { data := .hiZ, gate := .hiZ, arm := false }, true, 10, true) := by decide

/-- V-IN-1: tick 0, armed: BNA not taken, WAIT 50, 49 ticks still owed. -/
theorem test_first_tick_armed :
    next (fun s => (s.m.pc, s.m.wait, s.controller))
      (tick (State.resetWith { cfg with armReset := true } { door := [true] })) =
      some (2, 49, some .warmA) := by decide

/-- P2: in tick 0 the DriveLow of MODE is never observed; the start bit is. -/
theorem test_first_tick_send :
    next (fun s => (s.report, s.encoder))
      (tick { stWith [0x2005, 0x3053, 0x2001, 0x9000, 0x6003] [true] with pos := {} }) =
      some (.out { data := .driveHigh, gate := .hiZ, arm := false }, some .start) := by decide

/-- R174, R176: primitive 80 of a CYCLE is the first group's trailer, 81 starts the group of k = 3,
and 324 the second repetition. -/
theorem test_sequencer_counters :
    (seqOfIndex 80, seqOfIndex 81, seqOfIndex 324) =
      (({ rep := 1, k := 4, c := none } : SeqView), { rep := 1, k := 3, c := some 0 },
        { rep := 2, k := 4, c := some 0 }) := by decide

/-- R156: within a CYCLE, 1 + 20 + 18 primitives left is the third character's start bit. -/
theorem test_encoder_in_cycle :
    encInCycle 39 = some .start ∧ encInCycle 21 = some .endMark ∧ encInCycle 81 = none ∧
      encInCycle 0 = some .idle := by decide

/-- R156: the last trailer, begun or not, is Idle; a slot boundary with SEND primitives queued is no
state of the rule. -/
theorem test_encoder_without_wait :
    ({ st [] with m := { pc := 7, q := [.pwait 72] } } : State).encoder = some .idle ∧
    ({ st [] with m := { pc := 7, q := [.plvl .low, .pwait 8, .pwait 72] } } : State).encoder = none ∧
    ({ stWith (fixedMain cfg) [] with m := { pc := 7, wait := 72 } } : State).encoder = some .idle := by
  decide

/-- R176: with a trailer and one group left, k = 2's characters have ended; with one group left, its
trailer has. -/
theorem test_sequencer_between_primitives :
    ({ st [] with m := { pc := 7, q := .pwait 72 :: expandGroup cfg .na 1 } } : State).sequencer =
      some { rep := 1, k := 2, c := none } ∧
    ({ st [] with m := { pc := 7, q := expandGroup cfg .na 1 } } : State).sequencer =
      some { rep := 1, k := 1, c := some 0 } := by decide

/-- R202: the window is Debouncing. -/
theorem test_door_monitor_view :
    ({ isrAt 4 [] with i := { pc := 4, wait := 50 } } : State).doorMonitor = .debouncing := by decide

/-! A word placed at the fetch runs as the first instruction after reset -/

theorem test_fetch_word_main :
    next (fun s => s.m.pc) (step (State.reset.withFetchWord 16 0x5009)) = some 9 := by decide
theorem test_fetch_word_isr :
    next (fun s => (s.ctx, s.arm, s.i.pc)) (step (State.reset.withFetchWord 16 0x7000)) =
      some (.isr, true, 1) := by decide
theorem test_fetch_word_reti :
    next (fun s => s.ctx) (step (State.reset.withFetchWord 16 0xE000)) = some .main := by decide

/-! Witnesses: for each statement with hypotheses, a concrete state and operands that meet them
together, one for each clause -/

/-- The tick's start in the main context. -/
def start (door : List Bool) : State := { st door with pos := {} }

theorem test_witness_DecodeOfEncode : (Instr.cycle .debug 511).wf = true := by decide
theorem test_witness_EncodeOfDecode : decode 0x4FFC = .op (.cycle .debug 511) := by decide
theorem test_witness_SelectorFunction : (1 : Nat) ∈ [4, 3, 2, 1] := by decide

/-- Both contexts, both values of ArmState: WAIT, JMP, SEND, CYCLE, BNA. -/
theorem test_witness_contexts :
    (st []).ctx = .main ∧ (isrAt 5 []).ctx = .isr ∧ (st []).arm = false ∧ (isrAt 5 []).arm = false ∧
    ({ st [] with arm := true } : State).arm = true := by decide

/-- BDO: closed and open, in both contexts. -/
theorem test_witness_BdoBranchesWhenOpen :
    (isrAt 2 [false]).door = false ∧ (isrAt 2 [true]).door = true ∧ (isrAt 2 [true]).ctx = .isr ∧
    (st [true]).door = true ∧ (st [true]).ctx = .main := by decide

theorem test_witness_OperationFrame :
    exec .armset (isrAt 5 []) = .next { isrAt 5 [] with arm := true } := rfl

theorem test_witness_FixedProgramsAreAdmitted : cfg.r ≠ 0 := by decide

theorem test_witness_AdmissionOfPrograms : programFlaw [0x9000] [0xE000] = none := by decide

/-- StepRunsDecodedOperation, both clauses: BNA of the fixed PROG_M, without an opportunity, and with
one that draws false. -/
theorem test_witness_StepRunsDecodedOperation :
    let s := st [true]
    let o := { s with pending := true, par := { s.par with inputs := { draws := [[false]] } } }
    (s.fault = none ∧ s.par.refusal = none ∧ s.pos.phase = .run ∧ s.cur.wait = 0 ∧ s.cur.q = [] ∧
      s.halted = false ∧ s.pos.z + 1 ≤ s.par.cfg.maxZt ∧ s.program[s.cur.pc]? = some 0x5009 ∧
      decode 0x5009 = .op (.bna 9) ∧ s.opportunity = false) ∧
    (o.fault = none ∧ o.par.refusal = none ∧ o.pos.phase = .run ∧ o.cur.wait = 0 ∧ o.cur.q = [] ∧
      o.halted = false ∧ o.pos.z + 1 ≤ o.par.cfg.maxZt ∧ o.program[o.cur.pc]? = some 0x5009 ∧
      o.opportunity = true ∧ o.draw = false) := by decide

/-- The main context with a queue, without an opportunity. -/
def queued (q : List Prim) : State := { st [true] with m := { pc := 7, q := q } }

/-- The same state at an opportunity that draws false. -/
def drawsFalse (s : State) : State :=
  { s with pending := true, par := { s.par with inputs := { door := [true], draws := [[false]] } } }

/-- StepRunsPrimitive, both clauses, without an opportunity and with one that draws false. -/
theorem test_witness_StepRunsPrimitive :
    let ok := fun s : State =>
      s.fault = none ∧ s.par.refusal = none ∧ s.pos.phase = .run ∧ s.ctx = .main ∧
        s.halted = false ∧ s.m.wait = 0 ∧ s.pos.z + 1 ≤ s.par.cfg.maxZt
    let s := queued [.plvl .low]
    let o := queued [.pwait 4, .plvl .low]
    (ok s ∧ s.opportunity = false ∧ s.m.q = .plvl .low :: []) ∧
    (ok o ∧ o.opportunity = false ∧ o.m.q = .pwait 4 :: [.plvl .low]) ∧
    (ok (drawsFalse s) ∧ (drawsFalse s).opportunity = true ∧ (drawsFalse s).draw = false) ∧
    (ok (drawsFalse o) ∧ (drawsFalse o).opportunity = true ∧ (drawsFalse o).draw = false) := by decide

/-- StepSpendsWaitingTick, both clauses; with `pending` set and delivery off, too. -/
theorem test_witness_StepSpendsWaitingTick :
    let s := { st [true] with m := { pc := 2, wait := 1 } }
    let o := { isrAt 4 [true] with i := { pc := 4, wait := 50 } }
    (s.fault = none ∧ s.par.refusal = none ∧ s.pos.phase = .run ∧ s.ctx = .main ∧ 0 < s.m.wait ∧
      s.pending = false) ∧
    (o.fault = none ∧ o.par.refusal = none ∧ o.pos.phase = .run ∧ o.ctx = .isr ∧ 0 < o.i.wait) ∧
    ({ s with pending := true, ie := false } : State).ie = false := by decide

theorem test_witness_StepIdlesInHalt :
    let s := { st [true] with halted := true, m := { pc := 10 } }
    s.fault = none ∧ s.par.refusal = none ∧ s.pos.phase = .run ∧ s.ctx = .main ∧ s.halted = true ∧
      s.m.wait = 0 ∧ s.pending = false := by decide

/-- StepTakesInterrupt: halted, waiting, and by a draw alone. -/
theorem test_witness_StepTakesInterrupt :
    let s := { st [true] with pending := true }
    let h := { s with halted := true, m := { pc := 10 } }
    let w := { s with m := { pc := 2, wait := 9 } }
    let d := { s with par := { s.par with inputs := { draws := [[true]] } } }
    (h.fault = none ∧ h.par.refusal = none ∧ h.pos.phase = .run ∧ h.ctx = .main ∧ h.pending = true ∧
      h.ie = true ∧ h.halted = true) ∧
    (w.par.refusal = none ∧ w.ctx = .main ∧ w.pending = true ∧ w.ie = true ∧ 0 < w.m.wait) ∧
    (d.par.refusal = none ∧ d.ctx = .main ∧ d.pending = true ∧ d.ie = true ∧ d.halted = false ∧
      d.m.wait = 0 ∧ d.par.inputs.drawAt d.pos.t d.pos.b = true) := by decide

/-- StepLatchesEdge, the four clauses. -/
theorem test_witness_StepLatchesEdge :
    let f := { start [false] with doorPrev := true }
    let g := start [false]
    let any := fun s : State =>
      { s with par := { s.par with cfg := { s.par.cfg with doorEdge := .anyChange } } }
    (f.fault = none ∧ f.par.refusal = none ∧ f.pos.phase = .sample ∧ f.par.cfg.doorEdge = .falling ∧
      f.doorPrev = true ∧ f.par.inputs.doorAt f.pos.t = false) ∧
    (g.par.refusal = none ∧ g.pos.phase = .sample ∧ g.par.cfg.doorEdge = .falling ∧
      g.doorPrev = false) ∧
    ((any f).par.refusal = none ∧ (any f).par.cfg.doorEdge = .anyChange ∧
      (any f).doorPrev ≠ (any f).door) ∧
    ((any g).par.refusal = none ∧ (any g).par.cfg.doorEdge = .anyChange ∧
      (any g).doorPrev = (any g).door) := by decide

theorem test_witness_FaultIsAbsorbing :
    ({ st [] with fault := some .zeroTimeLoop } : State).fault ≠ none := by decide

/-- PcOutOfRangeIsRecorded, without an opportunity and with one that draws false. -/
theorem test_witness_PcOutOfRangeIsRecorded :
    let ok := fun s : State =>
      s.fault = none ∧ s.par.refusal = none ∧ s.pos.phase = .run ∧ s.cur.wait = 0 ∧ s.cur.q = [] ∧
        s.halted = false ∧ s.pos.z + 1 ≤ s.par.cfg.maxZt ∧ s.program.length ≤ s.cur.pc
    let s := { stWith [0x0001] [true] with m := { pc := 1 } }
    ok s ∧ s.opportunity = false ∧
    ok (drawsFalse s) ∧ (drawsFalse s).opportunity = true ∧ (drawsFalse s).draw = false := by decide

/-- ZeroTimeLoopIsRecorded, without an opportunity and with one that draws false. -/
theorem test_witness_ZeroTimeLoopIsRecorded :
    let ok := fun s : State =>
      s.fault = none ∧ s.par.refusal = none ∧ s.pos.phase = .run ∧ s.cur.wait = 0 ∧
        s.halted = false ∧ s.par.cfg.maxZt < s.pos.z + 1
    let s := { stWith [0x6000] [true] with pos := { phase := .run, z := 1024 } }
    ok s ∧ s.opportunity = false ∧
    ok (drawsFalse s) ∧ (drawsFalse s).opportunity = true ∧ (drawsFalse s).draw = false := by decide

/-- RefusedExactlyWhenNotAdmitted, the refused side. -/
theorem test_witness_RefusedExactlyWhenNotAdmitted :
    (stWith [0x4001] []).par.refusal = some (.programNotAdmitted .reservedWord) := by decide

theorem test_witness_StepKeepsRunInv : RunInv (st [true]) ∧
    next (fun s => s.m.pc) (step (st [true])) = some 9 :=
  ⟨by constructor <;> decide, by decide⟩

/-- The block about to run ARMSET at tick 51, the door closed since tick 1: the delivery was at tick
1. -/
def confirmed : State :=
  { isrAt 5 (true :: List.replicate 51 false) with
    doorPrev := false, ie := false, pos := { t := 51, phase := .run } }

theorem test_confirmed_inv : BlockInv confirmed where
  progM := rfl
  progI := rfl
  mPc := by decide
  iPc := by decide
  noPcFault := by decide
  mQueue := by decide
  iQueue := rfl
  halt := by decide
  isrAwake := by decide
  ieMain := by decide
  ieIsr := by decide
  gate := by decide
  data := by decide
  armed := by decide
  isrTick := by decide
  entryClosed := by decide
  window := fun _ h => absurd h (by decide)
  confirmed := fun _ _ => ⟨by decide, 1, by decide, by decide⟩

/-- StepKeepsBlockInv and ArmingNeedsTwoClosedSamples: the step does arm. -/
theorem test_witness_ArmingNeedsTwoClosedSamples :
    BlockInv confirmed ∧ confirmed.arm = false ∧
    next (fun s => s.arm) (step confirmed) = some true := ⟨test_confirmed_inv, by decide, by decide⟩

/-- The block about to run ARMCLR. -/
def releasing : State := { st [true] with arm := true, m := { pc := 8 } }

/-- NoPartialCycleDisarms: the step does disarm. -/
theorem test_witness_NoPartialCycleDisarms :
    BlockInv releasing ∧ releasing.arm = true ∧
    next (fun s => s.arm) (step releasing) = some false := by
  refine ⟨?_, by decide, by decide⟩
  constructor <;> first | rfl | decide | exact fun h => absurd h (by decide)

/-- OpenEntryOnlyClearsPending: just delivered, the door open. -/
theorem test_witness_OpenEntryOnlyClearsPending :
    let s := { isrAt 0 [true] with pending := true }
    BlockInv s ∧ s.fault = none ∧ s.par.refusal = none ∧ s.ctx = .isr ∧ s.i.pc = 0 ∧
      s.par.inputs.doorAt s.pos.t = true ∧ s.pos.z + 3 ≤ s.par.cfg.maxZt := by
  refine ⟨?_, by decide⟩
  constructor <;> first | rfl | decide | exact fun _ h => absurd h (by decide)

/-- ArmHasTwoWriters: both clauses have a step. -/
theorem test_witness_ArmHasTwoWriters :
    confirmed.arm = false ∧ next (fun s => s.arm) (step confirmed) = some true ∧
    releasing.arm = true ∧ next (fun s => s.arm) (step releasing) = some false := by decide

/-- PendingHasTwoWriters: both clauses have a step. -/
theorem test_witness_PendingHasTwoWriters :
    let f := { start [false] with doorPrev := true }
    let c := { isrAt 0 [true] with pending := true }
    f.pending = false ∧ next (fun s => s.pending) (step f) = some true ∧
    c.pending = true ∧ next (fun s => s.pending) (step c) = some false := by decide

theorem test_witness_GateHasOneWriter :
    let s := { st [true] with arm := true, m := { pc := 4 } }
    s.gate = .hiZ ∧ next (fun s => s.gate) (step s) = some .driveLow := by decide

theorem test_witness_IsrFreezesMainAndLines :
    let s := isrAt 7 [true]
    s.ctx = .isr ∧ s.i.q = [] ∧ next (fun s => s.ctx) (step s) = some .main := by decide

theorem test_witness_StepKeepsParameters : next (fun s => s.m.pc) (step (st [true])) = some 9 := by decide

/-- TickIsARunOfSteps, EveryTickEnds. -/
theorem test_witness_EveryTickEnds :
    (start [true]).fault = none ∧ (start [true]).par.refusal = none ∧
    (start [true]).pos.phase = .sample := by decide

theorem test_witness_QuiescentUntilEdge :
    let s := { start [true] with halted := true, m := { pc := 10 } }
    s.par.refusal = none ∧ s.pos.phase = .sample ∧ s.quiescent = true ∧
      edge s.par.cfg.doorEdge s.doorPrev (s.par.inputs.doorAt s.pos.t) = false := by decide

/-- WaitCountsItsOwnTicks, both clauses at their last tick. -/
theorem test_witness_WaitCountsItsOwnTicks :
    let s := { start (List.replicate 4 true) with m := { pc := 2, wait := 4 } }
    let o := { isrAt 4 [true] with i := { pc := 4, wait := 50 }, pos := {} }
    (s.fault = none ∧ s.par.refusal = none ∧ s.pos.phase = .sample ∧ s.ctx = .main ∧
      4 ≤ s.m.wait ∧ s.NoDelivery 4) ∧
    (o.fault = none ∧ o.par.refusal = none ∧ o.pos.phase = .sample ∧ o.ctx = .isr ∧
      50 ≤ o.i.wait) := by
  refine ⟨⟨by decide, by decide, by decide, by decide, by decide, Or.inr ⟨by decide, ?_⟩⟩, by decide⟩
  show ∀ u, u < 4 → _
  decide

/-- A SEND of 'S', the door open throughout, delivery enabled: fetched, or its primitives queued. -/
def sends (pos : Pos) : State :=
  { stWith [0x3053, 0x9000] (List.replicate 44 true) with pos := pos }
def sendsQueued (pos : Pos) : State := { sends pos with m := { pc := 1, q := expandSend 0x53 ++ [] } }

/-- No edge comes while the door stays open. -/
theorem test_door_stays_open (p : Phase) :
    (sends { phase := p }).NoDelivery 44 ∧ (sendsQueued { phase := p }).NoDelivery 44 ∧
    (sends { phase := p }).endTick.NoDelivery 43 ∧
    (sendsQueued { phase := p }).endTick.NoDelivery 43 := by
  refine ⟨.inr ⟨rfl, ?_⟩, .inr ⟨rfl, ?_⟩, .inr ⟨rfl, ?_⟩, .inr ⟨rfl, ?_⟩⟩
  · show ∀ u, u < 44 → _
    cases p <;> decide
  · show ∀ u, u < 44 → _
    cases p <;> decide
  · show ∀ u, u < 43 → _
    cases p <;> decide
  · show ∀ u, u < 43 → _
    cases p <;> decide

/-- SendWaveform: its four clauses, fetched and queued, at the start of t0 and inside it. -/
theorem test_witness_SendWaveform :
    let ok := fun s : State =>
      s.fault = none ∧ s.par.refusal = none ∧ s.ctx = .main ∧ s.halted = false ∧ s.m.wait = 0 ∧
        44 * s.par.cfg.tpm = 44 ∧ s.pos.z + 3 ≤ s.par.cfg.maxZt
    let f := sends { phase := .sample }
    (∀ p : Phase, p = .sample ∨ p = .run →
      (ok (sends { phase := p }) ∧ ok (sendsQueued { phase := p })) ∧
      (sends { phase := p }).pos.phase = p ∧ (sendsQueued { phase := p }).pos.phase = p) ∧
    f.m.q = [] ∧ f.par.progM[f.m.pc]? = some 0x3053 ∧ decode 0x3053 = .op (.send 0x53) ∧
    (sendsQueued { phase := .run }).m.q = expandSend 0x53 ++ [] := by
  refine ⟨fun p _ => by cases p <;> decide, by decide⟩

/-- The interrupt program just delivered in tick 0, the door closed. -/
def closedEntry : State := { isrAt 0 (List.replicate 52 false) with pending := true }

theorem test_closedEntry_inv : BlockInv closedEntry := by
  constructor <;> first | rfl | decide | exact fun _ h => absurd h (by decide)

/-- ClosedEntryDebounces: both outcomes of the re-sample. -/
theorem test_witness_ClosedEntryDebounces :
    BlockInv closedEntry ∧
    (closedEntry.fault = none ∧ closedEntry.par.refusal = none ∧ closedEntry.ctx = .isr ∧
      closedEntry.i.pc = 0 ∧ closedEntry.par.inputs.doorAt closedEntry.pos.t = false ∧
      closedEntry.pos.z + 4 ≤ closedEntry.par.cfg.maxZt) ∧
    (1 ≤ 50 ∧ 50 ≤ 50 * closedEntry.par.cfg.tpm) ∧
    closedEntry.par.inputs.doorAt 50 = false :=
  ⟨test_closedEntry_inv, by decide⟩

/-- StepKeepsFaultFreeInv: the same state, and its step. -/
theorem test_witness_StepKeepsFaultFreeInv :
    FaultFreeInv closedEntry ∧ next (fun s => s.pending) (step closedEntry) = some false := by
  refine ⟨⟨test_closedEntry_inv, by decide, by decide, by decide, by decide⟩, by decide⟩

/-- FirstTickFollowsArmReset (both clauses), FixedBlockNeverFaults. -/
theorem test_witness_FirstTickFollowsArmReset :
    configInRange cfg = true ∧ cfg.armReset = false ∧
    configInRange { cfg with armReset := true } = true := by decide

end Sys2Proof.Tests
end

/-! PROOF. What answers and what is refused, and the ranges of the state along every run. -/

namespace Sys2Proof.Machine

/-! ### Refusal: nothing that an admitted run does answers anything but a next state -/

/-- R122, R260: neither the fetch's model fault nor any operation ends an admitted run. -/
theorem fetchExec_answers {s : State} (hr : s.par.refusal = none) :
    ∃ t, fetchExec s = .next t := by
  obtain ⟨-, h⟩ | ⟨_, _, t, -, -, -, -, -, h⟩ := fetchExec_cases hr
  · exact ⟨_, h⟩
  · exact ⟨t, h⟩

theorem loopBody_answers {s : State} (hr : s.par.refusal = none) : ∃ t, loopBody s = .next t := by
  obtain ⟨-, h⟩ | ⟨-, -, h⟩ | ⟨-, -, -, h⟩ | ⟨-, -, -, _, _, -, h⟩ | ⟨-, -, -, -, h⟩ :=
    loopBody_cases s
  · exact ⟨_, h⟩
  · exact ⟨_, h⟩
  · exact ⟨_, h⟩
  · exact ⟨_, h⟩
  · exact h ▸ fetchExec_answers hr

/-- A step is refused for the parameters' own reason, or it answers a next state (R35, R95). -/
theorem step_refuses_or_answers (s : State) :
    (s.fault = none ∧ ∃ r, s.par.refusal = some r ∧ step s = .refused r) ∨
    ((s.fault = none → s.par.refusal = none) ∧ ∃ t, step s = .next t) := by
  obtain ⟨hf, h⟩ | h | ⟨-, hr, ⟨-, h⟩ | ⟨-, -, -, h⟩ | ⟨-, -, -, h⟩ | ⟨-, -, h⟩⟩ := step_cases s
  · exact .inr ⟨fun hn => by simp [hn] at hf, s, h⟩
  · exact .inl h
  · exact .inr ⟨fun _ => hr, _, h⟩
  · exact .inr ⟨fun _ => hr, _, h⟩
  · exact .inr ⟨fun _ => hr, h ▸ loopBody_answers (s := s.countOpportunity) hr⟩
  · exact .inr ⟨fun _ => hr, h ▸ loopBody_answers hr⟩

/-- Settles O29: a step that is not refused by the parameters answers a next state. -/
theorem refusedExactlyWhenNotAdmitted : Obligations.RefusedExactlyWhenNotAdmitted := by
  intro s r f
  obtain ⟨hf, r', hr, h⟩ | ⟨hr, t, h⟩ := step_refuses_or_answers s
  · simp [h, hf, hr]
  · refine ⟨⟨fun h' => ?_, fun ⟨hf, hs⟩ => ?_⟩, ?_⟩
    · simp [h] at h'
    · simp [hr hf] at hs
    · simp [h]

/-! ### The ranges: one rule per update of the state -/

/-- `ms(n)` is within the range of a wait counter (R9, R11). -/
theorem ms_le (c : Config) (n : Ms) : ms c n ≤ 4095 * c.tpm :=
  Nat.mul_le_mul_right _ (by omega)

/-- R93: an operation's target is below the length its program has. -/
theorem targetBelow_lt {op : Instr} {tgt : Index} {len : Nat} (ht : op.target = some tgt)
    (h : op.targetBelow len = true) : tgt.toNat < len := by
  simpa [Instr.targetBelow, ht] using h

namespace RunInv

variable {s t : State}

/-- The ranges speak of both records, the context, the halt, z and the parameters alone. -/
protected theorem congr (h : RunInv s) (hm : t.m = s.m) (hi : t.i = s.i) (hc : t.ctx = s.ctx)
    (hh : t.halted = s.halted) (hz : t.pos.z = s.pos.z) (hp : t.par = s.par) : RunInv t where
  mPc := by rw [hm, hp]; exact h.mPc
  iPc := by rw [hi, hp]; exact h.iPc
  mWait := by rw [hm, hp]; exact h.mWait
  iWait := by rw [hi, hp]; exact h.iWait
  iQueue := by rw [hi]; exact h.iQueue
  isrAwake := by rw [hc, hh]; exact h.isrAwake
  haltIdle := by rw [hh, hm]; exact h.haltIdle
  zBound := by rw [hz, hp]; exact h.zBound

theorem curWait_le (h : RunInv s) : s.cur.wait ≤ 4095 * s.par.cfg.tpm := by
  cases hc : s.ctx with
  | main => rw [s.cur_main hc]; exact h.mWait
  | isr => rw [s.cur_isr hc]; exact h.iWait

/-- Whatever waits is not halted (R234, R264). -/
theorem awake_of_wait (h : RunInv s) (hw : 0 < s.cur.wait) : s.halted = false := by
  cases hc : s.ctx with
  | isr => exact h.isrAwake hc
  | main =>
    rw [s.cur_main hc] at hw
    refine Bool.eq_false_iff.mpr fun hh => ?_
    have := (h.haltIdle hh).2
    omega

/-- Whatever does not idle is not halted (R121, R264). -/
theorem awake_of_not_idles (h : RunInv s) (hi : s.idles = false) : s.halted = false := by
  cases hc : s.ctx with
  | isr => exact h.isrAwake hc
  | main => simpa [State.idles, hc] using hi

theorem setPc (h : RunInv s) {n : Nat} (hn : n ≤ s.program.length) : RunInv (s.setPc n) := by
  cases hc : s.ctx with
  | main =>
    rw [s.setPc_main n hc]
    exact { h with mPc := by simpa [State.program, hc] using hn }
  | isr =>
    rw [s.setPc_isr n hc]
    exact { h with iPc := by simpa [State.program, hc] using hn }

theorem setWait (h : RunInv s) (hh : s.halted = false) {n : Nat}
    (hn : n ≤ 4095 * s.par.cfg.tpm) : RunInv (s.setWait n) := by
  cases hc : s.ctx with
  | main =>
    rw [s.setWait_main n hc]
    exact { h with mWait := hn, haltIdle := by simp [hh] }
  | isr =>
    rw [s.setWait_isr n hc]
    exact { h with iWait := hn }

theorem setQ (h : RunInv s) (hh : s.halted = false) {q : List Prim}
    (hq : s.ctx = .isr → q = []) : RunInv (s.setQ q) := by
  cases hc : s.ctx with
  | main =>
    rw [s.setQ_main q hc]
    exact { h with haltIdle := by simp [hh] }
  | isr =>
    rw [s.setQ_isr q hc]
    exact { h with iQueue := hq hc }

theorem branchIf (h : RunInv s) {tgt : Index} (ht : tgt.toNat < s.program.length) (taken : Bool) :
    RunInv (s.branchIf taken tgt) := by
  cases taken with
  | true => exact h.setPc ht.le
  | false => exact h

protected theorem execPrim (h : RunInv s) (hh : s.halted = false) (p : Prim) :
    RunInv (execPrim p s) := by
  cases p with
  | plvl v => exact h.congr rfl rfl rfl rfl rfl rfl
  | pwait n => exact h.setWait hh (ms_le _ n)

theorem countOperation (h : RunInv s) (hz : s.pos.z + 1 ≤ s.par.cfg.maxZt) :
    RunInv s.countOperation := { h with zBound := hz }

theorem countOpportunity (h : RunInv s) : RunInv s.countOpportunity :=
  h.congr rfl rfl rfl rfl rfl rfl

theorem raise (h : RunInv s) (r : Fault) : RunInv (s.raise r) := h.congr rfl rfl rfl rfl rfl rfl

theorem endTick (h : RunInv s) : RunInv s.endTick := h.congr rfl rfl rfl rfl rfl rfl

theorem spendTick (h : RunInv s) (hw : 0 < s.cur.wait) : RunInv s.spendTick :=
  (h.setWait (h.awake_of_wait hw) ((Nat.sub_le _ 1).trans h.curWait_le)).endTick

/-- Phase 1 starts z at 0 (R121). -/
theorem sampleDoor (h : RunInv s) : RunInv s.sampleDoor := { h with zBound := Nat.zero_le _ }

/-- A delivery starts the interrupt context's record afresh and ends the halt (R264). -/
theorem deliver (h : RunInv s) : RunInv s.deliver where
  mPc := h.mPc
  iPc := Nat.zero_le _
  mWait := h.mWait
  iWait := Nat.zero_le _
  iQueue := rfl
  isrAwake := fun _ => rfl
  haltIdle := fun hh => by simp at hh
  zBound := h.zBound

/-- The return leaves both records and the halt as they are (R198). -/
theorem returnFromIsr (h : RunInv s) : RunInv s.returnFromIsr :=
  { h with isrAwake := fun hc => by simp at hc }

/-- Halting in the main context with nothing queued and no wait (R234). -/
theorem setHalted (h : RunInv s) (hc : s.ctx = .main) (hq : s.cur.q = []) (hw : s.cur.wait = 0) :
    RunInv (s.setHalted true) :=
  { h with
    isrAwake := by simp [hc]
    haltIdle := fun _ => by simpa [s.cur_main hc] using And.intro hq hw }

/-! ### The ranges: operations, the loop body and the step -/

/-- Every operation keeps the ranges where its context admits it (R94) with its target in range
(R93), and it runs as a fetch does: awake, with nothing queued and no wait. -/
theorem of_exec {op : Instr} (h : RunInv s) (hh : s.halted = false) (hq : s.cur.q = [])
    (hw : s.cur.wait = 0) (ha : op.admittedIn s.ctx = true)
    (ht : op.targetBelow s.program.length = true) (he : exec op s = .next t) : RunInv t := by
  -- An operation of PROG_M alone does not run in the interrupt context.
  have main_of (hi : op.admittedIn .isr = false) : s.ctx ≠ .isr := fun hc => by
    simp [hc, hi] at ha
  cases op with
  | wait n =>
    obtain rfl := Host.Outcome.next.inj he
    exact h.setWait hh (ms_le _ n)
  | send b =>
    obtain rfl := Host.Outcome.next.inj he
    exact h.setQ hh fun hc => absurd hc (main_of rfl)
  | cycle p r =>
    obtain rfl := Host.Outcome.next.inj he
    exact h.setQ hh fun hc => absurd hc (main_of rfl)
  | jmp tgt =>
    obtain rfl := Host.Outcome.next.inj he
    exact h.setPc (targetBelow_lt rfl ht).le
  | bna tgt =>
    obtain rfl := Host.Outcome.next.inj he
    exact h.branchIf (targetBelow_lt rfl ht) _
  | bdo tgt =>
    obtain rfl := Host.Outcome.next.inj he
    exact h.branchIf (targetBelow_lt rfl ht) _
  | halt =>
    obtain rfl := Host.Outcome.next.inj he
    have hc : s.ctx = .main := by
      cases hc : s.ctx with
      | main => rfl
      | isr => exact absurd hc (main_of rfl)
    exact h.setHalted hc hq hw
  | reti =>
    obtain rfl := Host.Outcome.next.inj he
    exact h.returnFromIsr
  | mode d g m =>
    obtain rfl := Host.Outcome.next.inj he
    cases d <;> cases g <;> exact h.congr rfl rfl rfl rfl rfl rfl
  | _ =>
    obtain rfl := Host.Outcome.next.inj he
    exact h.congr rfl rfl rfl rfl rfl rfl

/-- The fetch advances the pc to the program's length at most (R25, R122). -/
theorem of_fetchExec (h : RunInv s) (hr : s.par.refusal = none) (hh : s.halted = false)
    (hq : s.cur.q = []) (hw : s.cur.wait = 0) (he : fetchExec s = .next t) : RunInv t := by
  obtain ⟨-, hf⟩ | ⟨w, op, u, hget, -, ha, ht, hex, hf⟩ := fetchExec_cases hr
  · obtain rfl := Host.Outcome.next.inj (hf.symm.trans he)
    exact h.raise _
  · obtain rfl := Host.Outcome.next.inj (hf.symm.trans he)
    have hpc : s.cur.pc + 1 ≤ s.program.length := (List.getElem?_eq_some_iff.mp hget).1
    refine (h.setPc hpc).of_exec (by simpa using hh) (by simpa using hq) (by simpa using hw)
      (by simpa using ha) ?_ hex
    simpa [State.program_eq] using ht

/-- The interrupt context, whose queue is empty, runs no primitive (R94, R125). -/
theorem ctx_ne_isr_of_queue (h : RunInv s) (hq : s.cur.q ≠ []) : s.ctx ≠ .isr := fun hc =>
  hq (by rw [s.cur_isr hc]; exact h.iQueue)

theorem of_loopBody (h : RunInv s) (hr : s.par.refusal = none) (he : loopBody s = .next t) :
    RunInv t := by
  obtain ⟨hw, hb⟩ | ⟨-, -, hb⟩ | ⟨-, -, -, hb⟩ | ⟨-, hi, hz, p, ps, hq, hb⟩ |
    ⟨hw, hi, hz, hq, hb⟩ := loopBody_cases s
  · obtain rfl := Host.Outcome.next.inj (hb.symm.trans he)
    exact h.spendTick hw
  · obtain rfl := Host.Outcome.next.inj (hb.symm.trans he)
    exact h.endTick
  · obtain rfl := Host.Outcome.next.inj (hb.symm.trans he)
    exact h.raise _
  · obtain rfl := Host.Outcome.next.inj (hb.symm.trans he)
    have hh := h.awake_of_not_idles hi
    have hc : s.ctx ≠ .isr := h.ctx_ne_isr_of_queue (by simp [hq])
    exact ((h.countOperation hz).setQ hh fun hc' => absurd hc' hc).execPrim (by simpa using hh) p
  · exact (h.countOperation hz).of_fetchExec hr (h.awake_of_not_idles hi) hq hw (hb.symm.trans he)

theorem of_step (h : RunInv s) (he : step s = .next t) : RunInv t := by
  obtain ⟨-, hs⟩ | ⟨-, r, -, hs⟩ |
    ⟨-, hr, ⟨-, hs⟩ | ⟨-, -, -, hs⟩ | ⟨-, -, -, hs⟩ | ⟨-, -, hs⟩⟩ := step_cases s
  · obtain rfl := Host.Outcome.next.inj (hs.symm.trans he)
    exact h
  · simp [hs] at he
  · obtain rfl := Host.Outcome.next.inj (hs.symm.trans he)
    exact h.sampleDoor
  · obtain rfl := Host.Outcome.next.inj (hs.symm.trans he)
    exact h.countOpportunity.deliver
  · exact h.countOpportunity.of_loopBody hr (hs.symm.trans he)
  · exact h.of_loopBody hr (hs.symm.trans he)

end RunInv

/-- Settles O39, by what a step can do: each update of the state it makes keeps the ranges. -/
theorem stepKeepsRunInv : Obligations.StepKeepsRunInv :=
  fun _ _ h he => h.of_step he

end Sys2Proof.Machine

/-! PROOF. The state of the block: what every operation and every step leaves unchanged, the state after
reset, and the ticks in which nothing runs. -/

namespace Sys2Proof.Machine

/-! ### The live context's record: what an update of one part leaves of both records -/

/-- What an update of the live record keeps of it, it keeps of both records. -/
theorem State.setCur_keeps {α : Type} (f : CtxState → α) (s : State) {c : CtxState}
    (h : f c = f s.cur) : f (s.setCur c).m = f s.m ∧ f (s.setCur c).i = f s.i := by
  cases hc : s.ctx with
  | main => simpa [State.setCur_main, State.cur_main, hc] using h
  | isr => simpa [State.setCur_isr, State.cur_isr, hc] using h

@[simp] theorem State.setPc_q (s : State) (n : Nat) :
    (s.setPc n).m.q = s.m.q ∧ (s.setPc n).i.q = s.i.q := s.setCur_keeps CtxState.q rfl

@[simp] theorem State.setPc_wait (s : State) (n : Nat) :
    (s.setPc n).m.wait = s.m.wait ∧ (s.setPc n).i.wait = s.i.wait := s.setCur_keeps CtxState.wait rfl

@[simp] theorem State.setQ_pc (s : State) (q : List Prim) :
    (s.setQ q).m.pc = s.m.pc ∧ (s.setQ q).i.pc = s.i.pc := s.setCur_keeps CtxState.pc rfl

@[simp] theorem State.setQ_wait (s : State) (q : List Prim) :
    (s.setQ q).m.wait = s.m.wait ∧ (s.setQ q).i.wait = s.i.wait := s.setCur_keeps CtxState.wait rfl

@[simp] theorem State.setWait_pc (s : State) (n : Nat) :
    (s.setWait n).m.pc = s.m.pc ∧ (s.setWait n).i.pc = s.i.pc := s.setCur_keeps CtxState.pc rfl

@[simp] theorem State.setWait_q (s : State) (n : Nat) :
    (s.setWait n).m.q = s.m.q ∧ (s.setWait n).i.q = s.i.q := s.setCur_keeps CtxState.q rfl

/-- The interrupt context's record belongs to the interrupt context alone. -/
theorem State.setCur_i_of_main (s : State) (c : CtxState) (h : s.ctx = .main) :
    (s.setCur c).i = s.i := by rw [s.setCur_main c h]

/-- The main context's record belongs to the main context alone. -/
theorem State.setCur_m_of_isr (s : State) (c : CtxState) (h : s.ctx = .isr) :
    (s.setCur c).m = s.m := by rw [s.setCur_isr c h]

theorem State.setCur_self (s : State) : s.setCur s.cur = s := by
  cases hc : s.ctx with
  | main => rw [s.setCur_main _ hc, s.cur_main hc]
  | isr => rw [s.setCur_isr _ hc, s.cur_isr hc]

/-! ### Operations as updates of the state -/

/-- A branch writes the pc, with its old value where it is not taken. -/
@[simp] theorem State.branchIf_eq_setPc (s : State) (taken : Bool) (tgt : Index) :
    s.branchIf taken tgt = s.setPc (if taken = true then tgt.toNat else s.cur.pc) := by
  cases taken with
  | true => rfl
  | false => exact s.setCur_self.symm

/-- MODE writes the data line, with its old value where it does not name it. -/
@[simp] theorem modeData_eq_driveData (named : Bool) (md : LineMode) (s : State) :
    modeData named md s = s.driveData (if named = true then dataOfMode md else s.data) := by
  cases named <;> rfl

/-- MODE writes the gate line, with its old value where it does not name it. -/
@[simp] theorem modeGate_eq_driveGate (named : Bool) (md : LineMode) (s : State) :
    modeGate named md s = s.driveGate (if named = true then gateOfMode md else s.gate) := by
  cases named <;> rfl

@[simp] theorem execPrim_plvl (v : Level) (s : State) :
    execPrim (.plvl v) s = s.driveData (driveOfLevel v) := rfl

@[simp] theorem execPrim_pwait (n : Ms) (s : State) :
    execPrim (.pwait n) s = s.setWait (ms s.par.cfg n) := rfl

/-! ### The writers of each field among the operations -/

section Writers

variable {op : Instr} {s t : State}

/-- R24: ARMSET and ARMCLR alone write ArmState. -/
theorem exec_arm (h : exec op s = .next t) (ha : t.arm ≠ s.arm) : op = .armset ∨ op = .armclr := by
  cases op with
  | armset => exact .inl rfl
  | armclr => exact .inr rfl
  | _ =>
    obtain rfl := Host.Outcome.next.inj h
    simp at ha

/-- R28: among the operations CLRPEND alone writes `pending`. -/
theorem exec_pending (h : exec op s = .next t) (hp : t.pending ≠ s.pending) : op = .clrpend := by
  cases op with
  | clrpend => rfl
  | _ =>
    obtain rfl := Host.Outcome.next.inj h
    simp at hp

/-- R29: IDIS and IEN alone write `ie`. -/
theorem exec_ie (h : exec op s = .next t) (hi : t.ie ≠ s.ie) : op = .idis ∨ op = .ien := by
  cases op with
  | idis => exact .inl rfl
  | ien => exact .inr rfl
  | _ =>
    obtain rfl := Host.Outcome.next.inj h
    simp at hi

/-- R31: among the operations HALT alone writes `halted`. -/
theorem exec_halted (h : exec op s = .next t) (hh : t.halted ≠ s.halted) : op = .halt := by
  cases op with
  | halt => rfl
  | _ =>
    obtain rfl := Host.Outcome.next.inj h
    simp at hh

/-- R31: among the operations RETI alone writes `ctx`. -/
theorem exec_ctx (h : exec op s = .next t) (hc : t.ctx ≠ s.ctx) : op = .reti := by
  cases op with
  | reti => rfl
  | _ =>
    obtain rfl := Host.Outcome.next.inj h
    simp at hc

/-- R32: LVL, and a MODE that names it, alone write the data line. -/
theorem exec_data (h : exec op s = .next t) (hd : t.data ≠ s.data) :
    (∃ v, op = .lvl v) ∨ ∃ g m, op = .mode true g m := by
  cases op with
  | lvl v => exact .inl ⟨v, rfl⟩
  | mode d g m =>
    obtain rfl := Host.Outcome.next.inj h
    cases d with
    | true => exact .inr ⟨g, m, rfl⟩
    | false => simp at hd
  | _ =>
    obtain rfl := Host.Outcome.next.inj h
    simp at hd

/-- R33: a MODE that names it alone writes the gate line. -/
theorem exec_gate (h : exec op s = .next t) (hg : t.gate ≠ s.gate) :
    ∃ d m, op = .mode d true m := by
  cases op with
  | mode d g m =>
    obtain rfl := Host.Outcome.next.inj h
    cases g with
    | true => exact ⟨d, m, rfl⟩
    | false => simp at hg
  | _ =>
    obtain rfl := Host.Outcome.next.inj h
    simp at hg

/-- R25: among the operations the branches and the jump alone write a pc. -/
theorem exec_pc (h : exec op s = .next t) (hp : t.m.pc ≠ s.m.pc ∨ t.i.pc ≠ s.i.pc) :
    ∃ tgt, op = .bna tgt ∨ op = .jmp tgt ∨ op = .bdo tgt := by
  cases op with
  | bna tgt => exact ⟨tgt, .inl rfl⟩
  | jmp tgt => exact ⟨tgt, .inr (.inl rfl)⟩
  | bdo tgt => exact ⟨tgt, .inr (.inr rfl)⟩
  | _ =>
    obtain rfl := Host.Outcome.next.inj h
    simp at hp

/-- R26: the composite operations SEND and CYCLE alone write a queue. -/
theorem exec_queue (h : exec op s = .next t) (hq : t.m.q ≠ s.m.q ∨ t.i.q ≠ s.i.q) :
    (∃ b, op = .send b) ∨ ∃ p r, op = .cycle p r := by
  cases op with
  | send b => exact .inl ⟨b, rfl⟩
  | cycle p r => exact .inr ⟨p, r, rfl⟩
  | _ =>
    obtain rfl := Host.Outcome.next.inj h
    simp at hq

/-- R27: among the operations WAIT alone writes a wait counter. -/
theorem exec_wait (h : exec op s = .next t) (hw : t.m.wait ≠ s.m.wait ∨ t.i.wait ≠ s.i.wait) :
    ∃ n, op = .wait n := by
  cases op with
  | wait n => exact ⟨n, rfl⟩
  | _ =>
    obtain rfl := Host.Outcome.next.inj h
    simp at hw

/-- R69: no operation of the main context writes the interrupt context's record. -/
theorem exec_i_of_main (h : exec op s = .next t) (hc : s.ctx = .main) : t.i = s.i := by
  cases op with
  | _ =>
    obtain rfl := Host.Outcome.next.inj h
    simp [State.setPc, State.setQ, State.setWait, State.setCur_i_of_main _ _ hc]

/-- R69: no operation of the interrupt context writes the main context's record. -/
theorem exec_m_of_isr (h : exec op s = .next t) (hc : s.ctx = .isr) : t.m = s.m := by
  cases op with
  | _ =>
    obtain rfl := Host.Outcome.next.inj h
    simp [State.setPc, State.setQ, State.setWait, State.setCur_m_of_isr _ _ hc]

/-- R30: no operation writes the edge detector's sample. -/
theorem exec_doorPrev (h : exec op s = .next t) : t.doorPrev = s.doorPrev := by
  cases op with
  | _ =>
    obtain rfl := Host.Outcome.next.inj h
    simp

/-- R260: no operation raises or clears a fault. -/
theorem exec_fault (h : exec op s = .next t) : t.fault = s.fault := by
  cases op with
  | _ =>
    obtain rfl := Host.Outcome.next.inj h
    simp

end Writers

/-- Settles O20, from the writers of each field among the operations. -/
theorem operationFrame : Obligations.OperationFrame := fun _ _ _ h =>
  ⟨exec_arm h, exec_pending h, exec_ie h, exec_halted h, exec_ctx h, exec_data h, exec_gate h,
    exec_pc h, exec_queue h, exec_wait h, exec_i_of_main h, exec_m_of_isr h, exec_doorPrev h,
    exec_fault h, exec_pos h, exec_par h⟩

/-! ### The writers of the flags and the gate line among the steps -/

/-- ArmState, `pending`, the gate line and the parameters are the same in both states: only an operation
or the edge detector writes the first three (R24, R28, R33), and nothing the last (R69). -/
structure KeepsFlags (s t : State) : Prop where
  arm : t.arm = s.arm
  pending : t.pending = s.pending
  gate : t.gate = s.gate
  par : t.par = s.par

/-- The answer `t` comes from the operation at the live context's pc, one that its context admits
(R94), run in a state with the flags of `s`. -/
def RunsFetched (s t : State) : Prop :=
  ∃ w op u, s.program[s.cur.pc]? = some w ∧ decode w = .op op ∧ op.admittedIn s.ctx = true ∧
    KeepsFlags s u ∧ exec op u = .next t

namespace KeepsFlags

variable {s t u : State}

protected theorem trans (h : KeepsFlags s t) (h' : KeepsFlags t u) : KeepsFlags s u :=
  ⟨h'.arm.trans h.arm, h'.pending.trans h.pending, h'.gate.trans h.gate, h'.par.trans h.par⟩

theorem spendTick (s : State) : KeepsFlags s s.spendTick := by
  constructor <;> simp [State.spendTick]

theorem setPc (s : State) (n : Nat) : KeepsFlags s (s.setPc n) := by constructor <;> simp

/-- A primitive taken from the queue writes no flag and not the gate line (R125). -/
theorem queuedPrim (s : State) (p : Prim) (ps : List Prim) :
    KeepsFlags s (execPrim p (s.countOperation.setQ ps)) := by
  cases p <;> constructor <;> simp

end KeepsFlags

/-- Counting an operation or an opportunity changes nothing of what is written then. -/
theorem writes_of_counted {s s' t : State} (hc : s'.ctx = s.ctx) (hcur : s'.cur = s.cur)
    (hprog : s'.program = s.program) (hk : KeepsFlags s s') (h : KeepsFlags s' t ∨ RunsFetched s' t) :
    KeepsFlags s t ∨ RunsFetched s t := by
  obtain h | ⟨w, op, u, hw, hd, ha, hu, he⟩ := h
  · exact .inl (hk.trans h)
  · rw [hprog, hcur] at hw
    rw [hc] at ha
    exact .inr ⟨w, op, u, hw, hd, ha, hk.trans hu, he⟩

/-- What a fetch can write (R122). -/
theorem fetchExec_writes {s t : State} (hr : s.par.refusal = none) (h : fetchExec s = .next t) :
    KeepsFlags s t ∨ RunsFetched s t := by
  obtain ⟨-, hf⟩ | ⟨w, op, u, hw, hd, ha, -, he, hf⟩ := fetchExec_cases hr
  · obtain rfl := Host.Outcome.next.inj (hf.symm.trans h)
    exact .inl ⟨rfl, rfl, rfl, rfl⟩
  · obtain rfl := Host.Outcome.next.inj (hf.symm.trans h)
    exact .inr ⟨w, op, _, hw, hd, ha, .setPc s _, he⟩

/-- What the loop body can write (R121). -/
theorem loopBody_writes {s t : State} (hr : s.par.refusal = none) (h : loopBody s = .next t) :
    KeepsFlags s t ∨ RunsFetched s t := by
  obtain ⟨-, hb⟩ | ⟨-, -, hb⟩ | ⟨-, -, -, hb⟩ | ⟨-, -, -, p, ps, -, hb⟩ | ⟨-, -, -, -, hb⟩ :=
    loopBody_cases s
  · obtain rfl := Host.Outcome.next.inj (hb.symm.trans h)
    exact .inl (.spendTick s)
  · obtain rfl := Host.Outcome.next.inj (hb.symm.trans h)
    exact .inl ⟨rfl, rfl, rfl, rfl⟩
  · obtain rfl := Host.Outcome.next.inj (hb.symm.trans h)
    exact .inl ⟨rfl, rfl, rfl, rfl⟩
  · obtain rfl := Host.Outcome.next.inj (hb.symm.trans h)
    exact .inl (.queuedPrim s p ps)
  · exact writes_of_counted (s' := s.countOperation) rfl rfl rfl ⟨rfl, rfl, rfl, rfl⟩
      (fetchExec_writes hr (hb.symm.trans h))

/-- What a step can write: the edge detector's part, no flag at all, or what the operation at the live
context's pc writes. -/
theorem step_writes {s t : State} (h : step s = .next t) :
    (s.pos.phase = .sample ∧ t = s.sampleDoor) ∨ KeepsFlags s t ∨ RunsFetched s t := by
  obtain ⟨-, hs⟩ | ⟨-, r, -, hs⟩ |
    ⟨-, hr, ⟨hp, hs⟩ | ⟨-, -, -, hs⟩ | ⟨-, -, -, hs⟩ | ⟨-, -, hs⟩⟩ := step_cases s
  · obtain rfl := Host.Outcome.next.inj (hs.symm.trans h)
    exact .inr (.inl ⟨rfl, rfl, rfl, rfl⟩)
  · simp [hs] at h
  · exact .inl ⟨hp, (Host.Outcome.next.inj (hs.symm.trans h)).symm⟩
  · obtain rfl := Host.Outcome.next.inj (hs.symm.trans h)
    exact .inr (.inl ⟨rfl, rfl, rfl, rfl⟩)
  · exact .inr (writes_of_counted (s' := s.countOpportunity) rfl rfl rfl ⟨rfl, rfl, rfl, rfl⟩
      (loopBody_writes hr (hs.symm.trans h)))
  · exact .inr (loopBody_writes hr (hs.symm.trans h))

/-- Settles O49: neither phase 1, nor a delivery, nor any operation writes the parameters. -/
theorem stepKeepsParameters : Obligations.StepKeepsParameters := by
  intro s t h
  obtain ⟨-, rfl⟩ | hk | ⟨_, _, _, -, -, -, hk, he⟩ := step_writes h
  · rfl
  · exact hk.par
  · exact (exec_par he).trans hk.par

/-- An operation of PROG_I alone is fetched by the interrupt context (R94). -/
theorem fetched_by_isr {s : State} {w : Word} {op : Instr} (hw : s.program[s.cur.pc]? = some w)
    (hd : decode w = .op op) (ha : op.admittedIn s.ctx = true) (hm : op.admittedIn .main = false) :
    s.ctx = .isr ∧ ∃ w, s.par.progI[s.i.pc]? = some w ∧ decode w = .op op := by
  cases hc : s.ctx with
  | main => simp [hc, hm] at ha
  | isr => exact ⟨rfl, w, by simpa [State.program, State.cur, hc] using hw, hd⟩

/-- An operation of PROG_M alone is fetched by the main context (R94). -/
theorem fetched_by_main {s : State} {w : Word} {op : Instr} (hw : s.program[s.cur.pc]? = some w)
    (hd : decode w = .op op) (ha : op.admittedIn s.ctx = true) (hi : op.admittedIn .isr = false) :
    s.ctx = .main ∧ ∃ w, s.par.progM[s.m.pc]? = some w ∧ decode w = .op op := by
  cases hc : s.ctx with
  | main => exact ⟨rfl, w, by simpa [State.program, State.cur, hc] using hw, hd⟩
  | isr => simp [hc, hi] at ha

/-- Settles O45: of the two writers of ArmState among the operations, ARMSET raises it and stands in
PROG_I alone, ARMCLR clears it and stands in PROG_M alone. -/
theorem armHasTwoWriters : Obligations.ArmHasTwoWriters := by
  intro s t h
  obtain ⟨-, rfl⟩ | hk | ⟨w, op, u, hw, hd, ha, hk, he⟩ := step_writes h
  · simp +contextual
  · simp +contextual [hk.arm]
  · rw [← hk.arm]
    by_cases hne : t.arm = u.arm
    · simp +contextual [hne]
    · obtain rfl | rfl := exec_arm he hne
      · obtain rfl := Host.Outcome.next.inj he
        exact ⟨fun _ _ => fetched_by_isr hw hd ha rfl, by simp⟩
      · obtain rfl := Host.Outcome.next.inj he
        exact ⟨by simp, fun _ _ => fetched_by_main hw hd ha rfl⟩

/-- Settles O46: phase 1 only sets `pending`, and the one operation that writes it clears it and stands
in PROG_I alone. -/
theorem pendingHasTwoWriters : Obligations.PendingHasTwoWriters := by
  intro s t h
  obtain ⟨hp, rfl⟩ | hk | ⟨w, op, u, hw, hd, ha, hk, he⟩ := step_writes h
  · refine ⟨fun h0 h1 => ⟨hp, ?_⟩, fun h1 h0 => ?_⟩
    · simpa [h0, State.door] using h1
    · simp [h1] at h0
  · simp +contextual [hk.pending]
  · rw [← hk.pending]
    by_cases hne : t.pending = u.pending
    · simp +contextual [hne]
    · obtain rfl := exec_pending he hne
      obtain rfl := Host.Outcome.next.inj he
      exact ⟨by simp, fun _ _ => fetched_by_isr hw hd ha rfl⟩

/-- Settles O47: the one operation that writes the gate line is a MODE that names it, and MODE stands in
PROG_M alone. -/
theorem gateHasOneWriter : Obligations.GateHasOneWriter := by
  intro s t h hne
  obtain ⟨-, rfl⟩ | hk | ⟨w, op, u, hw, hd, ha, hk, he⟩ := step_writes h
  · simp at hne
  · exact absurd hk.gate hne
  · obtain ⟨d, m, rfl⟩ := exec_gate he (by rwa [hk.gate])
    obtain ⟨hc, w, hw, hd⟩ := fetched_by_main hw hd ha rfl
    exact ⟨hc, w, d, m, hw, hd⟩

/-! ### The state after reset -/

/-- Settles O25: the record of R40 is how the state after reset is built. -/
theorem resetFields : Obligations.ResetFields := fun _ _ =>
  ⟨rfl, rfl, rfl, rfl, rfl, rfl, rfl, rfl, rfl, rfl, rfl, rfl, rfl, rfl, rfl⟩

/-- Settles O40: every counter starts at 0, both queues empty, in the main context and awake. -/
theorem resetHasRunInv : Obligations.ResetHasRunInv := fun _ _ =>
  { mPc := Nat.zero_le _
    iPc := Nat.zero_le _
    mWait := Nat.zero_le _
    iWait := Nat.zero_le _
    iQueue := rfl
    isrAwake := fun _ => rfl
    haltIdle := fun h => by cases h
    zBound := Nat.zero_le _ }

/-- The block starts at index 0 of its main program, with its lines released (R40, R96). -/
theorem BlockInv.resetWith (c : Config) (x : Inputs) : BlockInv (State.resetWith c x) where
  progM := rfl
  progI := rfl
  mPc := Nat.zero_le _
  iPc := fun _ => Nat.zero_le _
  noPcFault := fun h => by cases h
  mQueue := fun h => absurd rfl h
  iQueue := rfl
  halt := fun h => by cases h
  isrAwake := fun _ => rfl
  ieMain := fun _ => rfl
  ieIsr := fun h => by cases h
  gate := by simp [State.resetWith]
  data := by simp [State.resetWith]
  armed := by simp [State.resetWith]
  isrTick := fun h => by cases h
  entryClosed := fun h => by cases h
  window := fun h => by cases h
  confirmed := fun h => by cases h

/-- Settles O42: phase 1 comes first after reset, so that no operation is owed yet. -/
theorem resetHasBlockInv : Obligations.ResetHasBlockInv := fun c x =>
  ⟨.resetWith c x, fun hc =>
    { block := .resetWith c x
      config := hc
      noFault := rfl
      queue := rfl
      zeroTime := fun h => by cases h }⟩

/-! ### Ticks in which nothing runs -/

/-- Settles O36: both `step` and `tick` ask for a recorded fault first. -/
theorem faultIsAbsorbing : Obligations.FaultIsAbsorbing := by
  intro s h
  have hf : s.fault.isSome = true := Option.isSome_iff_ne_none.mpr h
  exact ⟨by simp [step, blockStep, hf], by simp [tick, hf]⟩

theorem loopBody_wait {s : State} (h : 0 < s.cur.wait) : loopBody s = .next s.spendTick := by
  simp [loopBody, h]

theorem loopBody_idle {s : State} (hw : s.cur.wait = 0) (hi : s.idles = true) :
    loopBody s = .next s.endTick := by simp [loopBody, hw, hi]

theorem opportunity_eq_false_iff (s : State) :
    s.opportunity = false ↔ (s.ctx = .main → s.pending = false ∨ s.ie = false) := by
  rw [← Bool.not_eq_true, opportunity_iff, not_and, not_and_or, Bool.not_eq_true, Bool.not_eq_true]

/-- The tick a waiting context consumes leaves the other context's record alone (R27). -/
theorem State.spendTick_main (s : State) (h : s.ctx = .main) :
    s.spendTick = { s with
      m := { s.m with wait := s.m.wait - 1 }
      pos := { s.pos with t := s.pos.t + 1, phase := .sample } } := by
  simp [State.spendTick, State.endTick, State.setWait_main _ _ h, State.cur_main _ h]

theorem State.spendTick_isr (s : State) (h : s.ctx = .isr) :
    s.spendTick = { s with
      i := { s.i with wait := s.i.wait - 1 }
      pos := { s.pos with t := s.pos.t + 1, phase := .sample } } := by
  simp [State.spendTick, State.endTick, State.setWait_isr _ _ h, State.cur_isr _ h]

@[simp] theorem State.sampleDoor_cur (s : State) : s.sampleDoor.cur = s.cur := rfl

theorem State.spendTick_cur (s : State) :
    s.spendTick.cur = { s.cur with wait := s.cur.wait - 1 } := s.setWait_cur _

/-- A step in which the live context waits and no delivery can happen (R121). -/
theorem step_wait {s : State} (hf : s.fault = none) (hr : s.par.refusal = none)
    (hp : s.pos.phase = .run) (ho : s.opportunity = false) (hw : 0 < s.cur.wait) :
    step s = .next s.spendTick := by
  simp [step_run hf hr hp, loopStep, ho, loopBody_wait hw]

/-- Settles O32: with nothing deliverable a pass is the loop body, which asks for the wait first. -/
theorem stepSpendsWaitingTick : Obligations.StepSpendsWaitingTick := by
  intro s hf hr hp
  refine ⟨fun hc hw hn => ?_, fun hc hw => ?_⟩
  · rw [← s.spendTick_main hc]
    exact step_wait hf hr hp ((opportunity_eq_false_iff s).mpr fun _ => hn) (by rwa [s.cur_main hc])
  · rw [← s.spendTick_isr hc]
    refine step_wait hf hr hp ((opportunity_eq_false_iff s).mpr fun h => ?_) (by rwa [s.cur_isr hc])
    simp [hc] at h

/-- Where phase 1 leaves nothing to deliver and the loop body then ends the tick, the whole tick is
these two (R121). -/
theorem tick_of_loopBody {s t : State} (hf : s.fault = none) (hr : s.par.refusal = none)
    (ho : s.sampleDoor.opportunity = false) (hb : loopBody s.sampleDoor = .next t)
    (hp : t.pos.phase = .sample) : tick s = .next t := by
  rw [tick_admitted hf hr]
  refine tickLoop_left ?_ (by simp [State.leftLoop, hp])
  simpa [tickPass, deliveryCheck, ho] using hb

/-- A tick that a waiting context consumes (R27, R121). -/
theorem tick_wait {s : State} (hf : s.fault = none) (hr : s.par.refusal = none)
    (ho : s.sampleDoor.opportunity = false) (hw : 0 < s.cur.wait) :
    tick s = .next s.sampleDoor.spendTick :=
  tick_of_loopBody hf hr ho (loopBody_wait hw) (by simp [State.spendTick])

/-- Settles O52: with no edge nothing is deliverable, and the halted main context idles; a wait it may
still hold would be spent, which leaves it quiescent too. -/
theorem quiescentUntilEdge : Obligations.QuiescentUntilEdge := by
  intro s hr _ hq he
  simp only [State.quiescent, Bool.and_eq_true, Bool.not_eq_true', decide_eq_true_eq,
    Option.isNone_iff_eq_none] at hq
  obtain ⟨⟨⟨⟨⟨hh, ha⟩, hpend⟩, hie⟩, hc⟩, hf⟩ := hq
  replace he : edge s.par.cfg.doorEdge s.doorPrev s.door = false := he
  have ho : s.sampleDoor.opportunity = false :=
    (opportunity_eq_false_iff _).mpr fun _ => .inl (by simp [hpend, he])
  by_cases hw : 0 < s.cur.wait
  · refine ⟨_, tick_wait hf hr ho hw, ?_⟩
    simp [State.spendTick, State.quiescent, hh, ha, hpend, he, hie, hc, hf]
  · have hi : s.sampleDoor.idles = true := (idles_iff _).mpr ⟨hc, hh⟩
    have hw0 : s.sampleDoor.cur.wait = 0 := Nat.eq_zero_of_not_pos hw
    refine ⟨_, tick_of_loopBody hf hr ho (loopBody_idle hw0 hi) rfl, ?_⟩
    simp [State.quiescent, hh, ha, hpend, he, hie, hc, hf]

/-! ### Waits over several ticks -/

/-- With no delivery possible in the coming ticks there is no opportunity in the first (R265). -/
theorem State.NoDelivery.opportunity {s : State} {k : Nat} (h : s.NoDelivery (k + 1)) :
    s.sampleDoor.opportunity = false := by
  refine (opportunity_eq_false_iff _).mpr fun _ => ?_
  obtain hie | ⟨hp, he⟩ := h
  · exact .inr hie
  · have := he 0 k.succ_pos
    exact .inl (by simpa [hp, State.doorBefore, State.door] using this)

/-- No configured edge in the ticks after the first, seen from the start of the second (R190). -/
theorem State.NoEdge.tail {s t : State} {k : Nat} (h : s.NoEdge (k + 1)) (hd : t.doorPrev = s.door)
    (ht : t.pos.t = s.pos.t + 1) (hpar : t.par = s.par) : t.NoEdge k := by
  have hb : ∀ u, t.doorBefore u = s.doorBefore (u + 1) := fun u => by
    cases u with
    | zero => exact hd
    | succ u => simp [State.doorBefore, hpar, ht, Nat.add_assoc, Nat.add_comm 1]
  intro u hu
  have := h (u + 1) (by omega)
  rwa [hb, hpar, ht, Nat.add_assoc, Nat.add_comm 1]

/-- No delivery in the ticks after the first, seen from the start of the second, where the first tick
wrote neither flag but by its phase 1 (R264, R265). -/
theorem State.NoDelivery.tail {s t : State} {k : Nat} (h : s.NoDelivery (k + 1)) (hie : t.ie = s.ie)
    (hp : t.pending = s.sampleDoor.pending) (hd : t.doorPrev = s.door)
    (ht : t.pos.t = s.pos.t + 1) (hpar : t.par = s.par) : t.NoDelivery k := by
  obtain h | ⟨h, he⟩ := h
  · exact .inl (hie.trans h)
  · have := he 0 k.succ_pos
    exact .inr ⟨hp.trans (by simpa [h, State.doorBefore, State.door] using this),
      he.tail hd ht hpar⟩

theorem ticks_succ {s u : State} (h : tick s = .next u) (k : Nat) : ticks (k + 1) s = ticks k u := by
  simp [ticks, h]

/-- The state `t` is `s` after `k` ticks that the live context consumed waiting. -/
structure WaitedFor (k : Nat) (s t : State) : Prop where
  fault : t.fault = none
  time : t.pos.t = s.pos.t + k
  ctx : t.ctx = s.ctx
  cur : t.cur = { s.cur with wait := s.cur.wait - k }
  m : s.ctx = .isr → t.m = s.m
  data : t.data = s.data
  gate : t.gate = s.gate
  arm : t.arm = s.arm

/-- One tick consumed waiting, and then `k` more. -/
theorem WaitedFor.succ {k : Nat} {s t : State} (h : WaitedFor k s.sampleDoor.spendTick t) :
    WaitedFor (k + 1) s t where
  fault := h.fault
  time := by
    rw [h.time]
    simp [State.spendTick]
    omega
  ctx := h.ctx.trans (by simp [State.spendTick])
  cur := by
    rw [h.cur, State.spendTick_cur, State.sampleDoor_cur, Nat.sub_sub, Nat.add_comm 1]
  m := fun hc => by
    rw [h.m (by simp [State.spendTick, hc]), s.sampleDoor.spendTick_isr hc, State.sampleDoor_m]
  data := h.data.trans (by simp [State.spendTick])
  gate := h.gate.trans (by simp [State.spendTick])
  arm := h.arm.trans (by simp [State.spendTick])

/-- A wait of at least `k` ticks lasts the next `k` ticks in its own context, unless the main context
is interrupted (R27, R195). -/
theorem ticks_wait (k : Nat) (s : State) (hf : s.fault = none) (hr : s.par.refusal = none)
    (hk : k ≤ s.cur.wait) (hn : s.ctx = .main → s.NoDelivery k) :
    ∃ t, ticks k s = .next t ∧ WaitedFor k s t := by
  induction k generalizing s with
  | zero => exact ⟨s, rfl, hf, rfl, rfl, rfl, fun _ => rfl, rfl, rfl, rfl⟩
  | succ k ih =>
    have ho : s.sampleDoor.opportunity = false := by
      cases hc : s.ctx with
      | main => exact (hn hc).opportunity
      | isr => simp [State.opportunity, hc]
    have htick : tick s = .next s.sampleDoor.spendTick := tick_wait hf hr ho (by omega)
    obtain ⟨t, ht, hwt⟩ := ih s.sampleDoor.spendTick (by simpa [State.spendTick] using hf)
      (by simpa [State.spendTick] using hr)
      (by rw [State.spendTick_cur, State.sampleDoor_cur]; exact Nat.le_sub_of_add_le hk)
      (fun hc => by
        have hc' : s.ctx = .main := by simpa [State.spendTick] using hc
        apply (hn hc').tail <;> simp [State.spendTick])
    exact ⟨t, (ticks_succ htick k).trans ht, hwt.succ⟩

/-- Settles O53: both clauses are the wait of the live context. -/
theorem waitCountsItsOwnTicks : Obligations.WaitCountsItsOwnTicks := by
  intro s k hf hr _
  refine ⟨fun hc hk hn => ?_, fun hc hk => ?_⟩
  · obtain ⟨t, ht, h⟩ := ticks_wait k s hf hr (by rwa [s.cur_main hc]) fun _ => hn
    have htc := h.ctx.trans hc
    have hm := h.cur
    rw [t.cur_main htc, s.cur_main hc] at hm
    exact ⟨t, ht, h.fault, h.time, htc, hm, h.data, h.gate, h.arm⟩
  · obtain ⟨t, ht, h⟩ := ticks_wait k s hf hr (by rwa [s.cur_isr hc]) fun h => by simp [hc] at h
    have htc := h.ctx.trans hc
    have hi := h.cur
    rw [t.cur_isr htc, s.cur_isr hc] at hi
    exact ⟨t, ht, h.fault, h.time, htc, hi, h.m hc, h.data, h.gate, h.arm⟩

end Sys2Proof.Machine

/-! PROOF. Operation words: the operand fields, the decoder and the encoder (R83 to R90). -/

namespace Sys2Proof

/-! ### Bit fields -/

/-- A bit vector is two fields put together exactly where these are its fields. -/
theorem eq_append_iff {hi lo : Nat} {a : BitVec (hi + lo)} {x : BitVec hi} {y : BitVec lo} :
    a = x ++ y ↔ a.extractLsb' lo hi = x ∧ a.extractLsb' 0 lo = y := by
  constructor
  · rintro rfl
    exact ⟨BitVec.extractLsb'_append_eq_left, BitVec.extractLsb'_append_eq_right⟩
  · rintro ⟨rfl, rfl⟩
    rw [BitVec.extractLsb'_append_extractLsb'_eq_extractLsb' (by simp), BitVec.extractLsb'_eq_self]

/-- A field of one bit is that bit. -/
theorem extractLsb'_one_eq_ofBool {n k : Nat} {a : BitVec n} {b : Bool} :
    a.extractLsb' k 1 = BitVec.ofBool b ↔ a.getLsbD k = b := by
  rw [BitVec.getLsbD_eq_extractLsb']
  generalize a.extractLsb' k 1 = x
  revert x b
  decide

/-- A field of two bits is not zero where one of the bits is set. -/
theorem extractLsb'_two_ne_zero_iff {n : Nat} {a : BitVec n} :
    a.extractLsb' 0 2 ≠ 0#2 ↔ (a.getLsbD 0 || a.getLsbD 1) = true := by
  have h := eq_append_iff (a := a.extractLsb' 0 2) (x := BitVec.ofBool false)
    (y := BitVec.ofBool false)
  rw [extractLsb'_one_eq_ofBool, extractLsb'_one_eq_ofBool, and_comm] at h
  rw [← Bool.not_eq_false, Bool.or_eq_false_iff]
  simpa using h.not

/-- The four fields of MODE's operand (R83). -/
theorem eq_modeField_iff {a : BitVec 12} {d g m : Bool} :
    a = 0#9 ++ (BitVec.ofBool m ++ (BitVec.ofBool g ++ BitVec.ofBool d)) ↔
      a.extractLsb' 3 9 = 0#9 ∧ a.getLsbD 0 = d ∧ a.getLsbD 1 = g ∧ a.getLsbD 2 = m := by
  simp only [eq_append_iff (hi := 9) (lo := 3), eq_append_iff (hi := 1) (lo := 2),
    eq_append_iff (hi := 1) (lo := 1), extractLsb'_one_eq_ofBool]
  simp [and_comm, and_assoc]

/-! ### Operand codes -/

theorem levelOfBit_eq_iff {b : Bool} {v : Level} : levelOfBit b = v ↔ b = bitOfLevel v := by
  cases b <;> cases v <;> decide

theorem lineModeOfBit_eq_iff {b : Bool} {m : LineMode} :
    lineModeOfBit b = m ↔ b = bitOfLineMode m := by
  cases b <;> cases m <;> decide

theorem profileOfCode_eq_some_iff {c : BitVec 3} {p : Profile} :
    profileOfCode c.toNat = some p ↔ c = codeOfProfile p := by
  cases p <;> revert c <;> decide

theorem profileOfCode_eq_none_iff {c : BitVec 3} : profileOfCode c.toNat = none ↔ 5 ≤ c.toNat := by
  revert c
  decide

/-! ### Operand decoders: the operands of each operation, and the reserved ones (R83, R88) -/

section Operands

variable {i j : Instr} {a : BitVec 12}

theorem decodeBare_eq_op : decodeBare i a = .op j ↔ i = j ∧ a = 0#12 := by
  by_cases ha : a = 0#12 <;> simp [decodeBare, ha]

theorem decodeLvl_eq_op :
    decodeLvl a = .op i ↔ ∃ v, i = .lvl v ∧ a = 0#11 ++ BitVec.ofBool (bitOfLevel v) := by
  simp only [eq_append_iff (hi := 11) (lo := 1), extractLsb'_one_eq_ofBool, ← levelOfBit_eq_iff]
  by_cases ha : a.extractLsb' 1 11 = 0#11 <;> simp [decodeLvl, ha, eq_comm]

theorem decodeMode_eq_op :
    decodeMode a = .op i ↔ ∃ d g m, i = .mode d g m ∧ (d || g) = true ∧
      a = 0#9 ++ (BitVec.ofBool (bitOfLineMode m) ++ (BitVec.ofBool g ++ BitVec.ofBool d)) := by
  simp only [eq_modeField_iff, ← lineModeOfBit_eq_iff]
  constructor
  · intro h
    unfold decodeMode at h
    split at h
    · next ha =>
      split at h
      · cases h
      · next hl =>
        obtain rfl := Decoded.op.inj h
        exact ⟨_, _, _, rfl, extractLsb'_two_ne_zero_iff.mp hl, ha, rfl, rfl, rfl⟩
    · cases h
  · rintro ⟨_, _, _, rfl, hl, ha, rfl, rfl, rfl⟩
    simp [decodeMode, ha, extractLsb'_two_ne_zero_iff.mpr hl]

theorem decodeSend_eq_op : decodeSend a = .op i ↔ ∃ b, i = .send b ∧ a = 0#4 ++ b := by
  simp only [eq_append_iff (hi := 4) (lo := 8)]
  by_cases ha : a.extractLsb' 8 4 = 0#4 <;> simp [decodeSend, ha, eq_comm]

theorem decodeCycle_eq_op :
    decodeCycle a = .op i ↔ ∃ p r, i = .cycle p r ∧ r ≠ 0#9 ∧ a = r ++ codeOfProfile p := by
  simp only [eq_append_iff (hi := 9) (lo := 3), decodeCycle, ← profileOfCode_eq_some_iff]
  cases profileOfCode (a.extractLsb' 0 3).toNat with
  | none => simp
  | some p => by_cases hr : a.extractLsb' 3 9 = 0#9 <;> simp [hr, eq_comm]

theorem decodeBare_invalid : (∃ why, decodeBare i a = .invalid why) ↔ a ≠ 0#12 := by
  by_cases ha : a = 0#12 <;> simp [decodeBare, ha]

theorem decodeLvl_invalid : (∃ why, decodeLvl a = .invalid why) ↔ a.extractLsb' 1 11 ≠ 0#11 := by
  by_cases ha : a.extractLsb' 1 11 = 0#11 <;> simp [decodeLvl, ha]

theorem decodeMode_invalid :
    (∃ why, decodeMode a = .invalid why) ↔ a.extractLsb' 3 9 ≠ 0#9 ∨ a.extractLsb' 0 2 = 0#2 := by
  by_cases ha : a.extractLsb' 3 9 = 0#9 <;>
    by_cases hl : a.extractLsb' 0 2 = 0#2 <;> simp [decodeMode, ha, hl]

theorem decodeSend_invalid : (∃ why, decodeSend a = .invalid why) ↔ a.extractLsb' 8 4 ≠ 0#4 := by
  by_cases ha : a.extractLsb' 8 4 = 0#4 <;> simp [decodeSend, ha]

theorem decodeCycle_invalid :
    (∃ why, decodeCycle a = .invalid why) ↔
      5 ≤ (a.extractLsb' 0 3).toNat ∨ a.extractLsb' 3 9 = 0#9 := by
  rw [← profileOfCode_eq_none_iff, decodeCycle]
  cases profileOfCode (a.extractLsb' 0 3).toNat with
  | none => simp
  | some p => by_cases hr : a.extractLsb' 3 9 = 0#9 <;> simp [hr]

end Operands

/-! ### The decoder -/

theorem wf_mode_iff {d g : Bool} {m : LineMode} :
    (Instr.mode d g m).wf = true ↔ (d || g) = true := by
  simp [Instr.wf, Instr.namesALine, Instr.repeatsOnce]

theorem wf_cycle_iff {p : Profile} {r : BitVec 9} : (Instr.cycle p r).wf = true ↔ r ≠ 0#9 := by
  simp [Instr.wf, Instr.namesALine, Instr.repeatsOnce]

/-- Settles O2: the opcode field selects the operand decoder, which reads its own fields back. -/
theorem decodeOfEncode : Obligations.DecodeOfEncode := by
  intro i hi
  cases i with
  | lvl v =>
    simpa [encode, decode, opcodeOf_append, operandOf_append] using
      decodeLvl_eq_op.mpr ⟨v, rfl, rfl⟩
  | mode d g m =>
    simpa [encode, decode, opcodeOf_append, operandOf_append] using
      decodeMode_eq_op.mpr ⟨d, g, m, rfl, wf_mode_iff.mp hi, rfl⟩
  | send b =>
    simpa [encode, decode, opcodeOf_append, operandOf_append] using
      decodeSend_eq_op.mpr ⟨b, rfl, rfl⟩
  | cycle p r =>
    simpa [encode, decode, opcodeOf_append, operandOf_append] using
      decodeCycle_eq_op.mpr ⟨p, r, rfl, wf_cycle_iff.mp hi, rfl⟩
  | wait a | bna a | jmp a | bdo a => simp [encode, decode, opcodeOf_append, operandOf_append]
  | armset | armclr | halt | clrpend | idis | ien | reti => rfl

/-- A word with the opcode and the operand field of an operation's word is that word (R83). -/
theorem encode_eq_of_fields {w : Word} {i : Instr} (k : BitVec 4) {a : BitVec 12}
    (hk : opcodeOf w = k.toNat) (ha : operandOf w = a) (hi : encode i = k ++ a) : encode i = w := by
  rw [hi, ← ha, ← BitVec.eq_of_toNat_eq hk]
  exact append_opcode_operand w

/-- The word of an operation with no operand. -/
theorem encode_of_decodeBare {w : Word} {i j : Instr} (k : BitVec 4) (hk : opcodeOf w = k.toNat)
    (h : decodeBare i (operandOf w) = .op j) (hi : encode i = k ++ 0#12) (hwf : i.wf = true) :
    encode j = w ∧ j.wf = true := by
  obtain ⟨rfl, ha⟩ := decodeBare_eq_op.mp h
  exact ⟨encode_eq_of_fields k hk ha hi, hwf⟩

/-- The word of an operation whose operand is the whole field. -/
theorem encode_of_operand {w : Word} {i j : Instr} (k : BitVec 4) (hk : opcodeOf w = k.toNat)
    (h : Decoded.op i = .op j) (hi : encode i = k ++ operandOf w) (hwf : i.wf = true) :
    encode j = w ∧ j.wf = true := by
  obtain rfl := Decoded.op.inj h
  exact ⟨encode_eq_of_fields k hk rfl hi, hwf⟩

/-- Settles O3: along the rows of R83's table, the operand field is the one the encoder writes. -/
theorem encodeOfDecode : Obligations.EncodeOfDecode := by
  intro w i h
  unfold decode at h
  split at h
  case h_1 hk => exact encode_of_operand 0x0 hk h rfl rfl
  case h_2 hk =>
    obtain ⟨v, rfl, ha⟩ := decodeLvl_eq_op.mp h
    exact ⟨encode_eq_of_fields 0x1 hk ha rfl, rfl⟩
  case h_3 hk =>
    obtain ⟨d, g, m, rfl, hl, ha⟩ := decodeMode_eq_op.mp h
    exact ⟨encode_eq_of_fields 0x2 hk ha rfl, wf_mode_iff.mpr hl⟩
  case h_4 hk =>
    obtain ⟨b, rfl, ha⟩ := decodeSend_eq_op.mp h
    exact ⟨encode_eq_of_fields 0x3 hk ha rfl, rfl⟩
  case h_5 hk =>
    obtain ⟨p, r, rfl, hr, ha⟩ := decodeCycle_eq_op.mp h
    exact ⟨encode_eq_of_fields 0x4 hk ha rfl, wf_cycle_iff.mpr hr⟩
  case h_6 hk => exact encode_of_operand 0x5 hk h rfl rfl
  case h_7 hk => exact encode_of_operand 0x6 hk h rfl rfl
  case h_8 hk => exact encode_of_decodeBare 0x7 hk h rfl rfl
  case h_9 hk => exact encode_of_decodeBare 0x8 hk h rfl rfl
  case h_10 hk => exact encode_of_decodeBare 0x9 hk h rfl rfl
  case h_11 hk => exact encode_of_decodeBare 0xA hk h rfl rfl
  case h_12 hk => exact encode_of_decodeBare 0xB hk h rfl rfl
  case h_13 hk => exact encode_of_decodeBare 0xC hk h rfl rfl
  case h_14 hk => exact encode_of_operand 0xD hk h rfl rfl
  case h_15 hk => exact encode_of_decodeBare 0xE hk h rfl rfl
  case h_16 => cases h

/-- A field of the operand is that field of the word (R83). -/
theorem operandOf_extractLsb' (w : Word) {start len : Nat} (h : start + len ≤ 12) :
    (operandOf w).extractLsb' start len = w.extractLsb' start len :=
  BitVec.extractLsb'_extractLsb'_of_le h

theorem extractLsb'_opcode_eq_iff {w : Word} {k : BitVec 4} :
    w.extractLsb' 12 4 = k ↔ opcodeOf w = k.toNat := BitVec.toNat_inj.symm

/-- Settles O4: along the rows of R83's table, only the row's own reserved bits count. -/
theorem invalidExactlyWhenReserved : Obligations.InvalidExactlyWhenReserved := by
  intro w
  simp only [extractLsb'_opcode_eq_iff]
  unfold decode
  split
  case h_2 hk => simp [hk, decodeLvl_invalid, operandOf_extractLsb']
  case h_3 hk => simp [hk, decodeMode_invalid, operandOf_extractLsb']
  case h_4 hk => simp [hk, decodeSend_invalid, operandOf_extractLsb']
  case h_5 hk => simp [hk, decodeCycle_invalid, operandOf_extractLsb']
  case h_16 =>
    have hlt : opcodeOf w < 16 := BitVec.isLt _
    have hk : opcodeOf w = 15 := by
      simp only [imp_false] at *
      omega
    simp [hk]
  case h_1 hk | h_6 hk | h_7 hk | h_14 hk => simp [hk]
  case h_8 hk | h_9 hk | h_10 hk | h_11 hk | h_12 hk | h_13 hk | h_15 hk =>
    simp [hk, decodeBare_invalid, operandOf]

/-- Settles O1. -/
theorem decodedWordsOfTheTable : Obligations.DecodedWordsOfTheTable := by
  unfold Obligations.DecodedWordsOfTheTable
  decide

end Sys2Proof

/-! PROOF. Programs and the wire frame: admission, the two fixed programs, and the frame of a
character. -/

namespace Sys2Proof.Machine

/-! ### Programs: their operations, admission, and the two fixed ones (R95, R96) -/

/-- The word of CYCLE, from its fields at their places in the word (R83, R96). -/
theorem encode_cycle (p : Profile) (r : BitVec 9) :
    encode (.cycle p r) =
      (0x4000 : Word) ||| (r.zeroExtend 16 <<< 3) ||| (codeOfProfile p).zeroExtend 16 := by
  have h : (0x4#4 ++ (r ++ codeOfProfile p)).toNat =
      0x4000 ||| (r.toNat <<< 3 ||| (codeOfProfile p).toNat) := by
    rw [BitVec.toNat_append, BitVec.toNat_append]
    rfl
  have hr : (r.toNat % 65536) <<< 3 % 65536 = r.toNat <<< 3 := by
    simp only [Nat.shiftLeft_eq]
    omega
  have hp : (codeOfProfile p).toNat % 65536 = (codeOfProfile p).toNat := by omega
  apply BitVec.eq_of_toNat_eq
  refine h.trans ?_
  simp [hr, hp, Nat.or_assoc]

/-- Settles O26: the words are the encodings of R96's operations, CYCLE's with the configured fields. -/
theorem fixedProgramWords : Obligations.FixedProgramWords := by
  intro c x
  rw [← encode_cycle]
  exact ⟨rfl, rfl⟩

/-- The operations of a program are what its words decode to (WF1). -/
theorem decodeAll_eq_some_iff {p : List Word} {is : List Instr} :
    decodeAll p = some is ↔ p.map decode = is.map .op := by
  induction p generalizing is with
  | nil => simp [decodeAll, eq_comm]
  | cons w ws ih =>
    cases is with
    | nil =>
      simp only [decodeAll]
      split <;> simp
    | cons i is =>
      cases hd : decode w <;> cases ha : decodeAll ws <;> simp [decodeAll, hd, ha, ← ih]

/-- Operations that all have an encoding are the operations of their words (R83). -/
theorem decodeAll_map_encode {is : List Instr} (h : ∀ i ∈ is, i.wf = true) :
    decodeAll (is.map encode) = some is := by
  rw [decodeAll_eq_some_iff, List.map_map]
  exact List.map_congr_left fun i hi => decodeOfEncode i (h i hi)

/-- R95 on the operations of both programs: none of the checks fails. -/
theorem programFlaw_eq_none_iff {pm pi : List Word} :
    programFlaw pm pi = none ↔ ∃ m i, decodeAll pm = some m ∧ decodeAll pi = some i ∧
      contextsAdmitted m i = true ∧ targetsInRange m i = true ∧ lengthInRange m = true ∧
      lengthInRange i = true ∧ hasReti i = true := by
  unfold programFlaw
  cases decodeAll pm with
  | none => simp
  | some m =>
    cases decodeAll pi with
    | none => simp
    | some i =>
      dsimp only
      split_ifs <;> simp_all

/-- R93: an operation's target, if it has one, is in range. -/
theorem targetBelow_iff {len : Nat} {i : Instr} :
    i.targetBelow len = true ↔ ∀ t, i.target = some t → t.toNat < len := by
  unfold Instr.targetBelow
  cases i.target <;> simp

/-- A word of a program that stands there rightly: it decodes, to an operation that the program's
context admits, with its target in range (WF1 to WF3). -/
def WordAdmitted (c : CtxId) (len : Nat) (w : Word) : Prop :=
  ∃ i, decode w = .op i ∧ i.admittedIn c = true ∧ ∀ t, i.target = some t → t.toNat < len

/-- WF1 to WF3 for one program, word by word. -/
theorem forall_wordAdmitted_iff {p : List Word} {c : CtxId} {len : Nat} :
    (∀ w ∈ p, WordAdmitted c len w) ↔
      ∃ is, decodeAll p = some is ∧ is.all (Instr.admittedIn c) = true ∧
        is.all (Instr.targetBelow len) = true := by
  constructor
  · intro h
    induction p with
    | nil => exact ⟨[], rfl, rfl, rfl⟩
    | cons w ws ih =>
      rw [List.forall_mem_cons] at h
      obtain ⟨⟨i, hd, ha, ht⟩, hws⟩ := h
      obtain ⟨is, hds, has, hts⟩ := ih hws
      exact ⟨i :: is, by simp [decodeAll, hd, hds],
        by simp only [List.all_cons, ha, has, Bool.and_self],
        by simp only [List.all_cons, targetBelow_iff.mpr ht, hts, Bool.and_self]⟩
  · rintro ⟨is, hd, ha, ht⟩ w hw
    obtain ⟨i, hi, hm⟩ := decodeAll_mem hd hw
    exact ⟨i, hi, List.all_eq_true.mp ha i hm, targetBelow_iff.mp (List.all_eq_true.mp ht i hm)⟩

/-- WF5 on the words of PROG_I. -/
theorem hasReti_iff {p : List Word} {is : List Instr} (h : decodeAll p = some is) :
    hasReti is = true ↔ ∃ w ∈ p, decode w = .op .reti := by
  have hmem : Decoded.op .reti ∈ p.map decode ↔ Decoded.op .reti ∈ is.map .op := by
    rw [decodeAll_eq_some_iff.mp h]
  simpa [hasReti] using hmem.symm

/-- Settles O27: the checks on the operations say the same of the words. -/
theorem admissionOfPrograms : Obligations.AdmissionOfPrograms := by
  intro pm pi
  change _ ↔ (∀ w ∈ pm, WordAdmitted .main pm.length w) ∧
    (∀ w ∈ pi, WordAdmitted .isr pi.length w) ∧ _
  rw [programFlaw_eq_none_iff, forall_wordAdmitted_iff, forall_wordAdmitted_iff]
  simp only [contextsAdmitted, targetsInRange, lengthInRange, Bool.and_eq_true, decide_eq_true_eq]
  constructor
  · rintro ⟨m, i, hm, hi, ⟨hcm, hci⟩, ⟨htm, hti⟩, ⟨hm1, hm2⟩, ⟨hi1, hi2⟩, hr⟩
    rw [hasReti_iff hi] at hr
    rw [decodeAll_length hm] at htm hm1 hm2
    rw [decodeAll_length hi] at hti hi1 hi2
    exact ⟨⟨m, hm, hcm, htm⟩, ⟨i, hi, hci, hti⟩, hm1, hm2, hi1, hi2, hr⟩
  · rintro ⟨⟨m, hm, hcm, htm⟩, ⟨i, hi, hci, hti⟩, hm1, hm2, hi1, hi2, hr⟩
    rw [← hasReti_iff hi] at hr
    rw [← decodeAll_length hm] at htm hm1 hm2
    rw [← decodeAll_length hi] at hti hi1 hi2
    exact ⟨m, i, hm, hi, ⟨hcm, hci⟩, ⟨htm, hti⟩, ⟨hm1, hm2⟩, ⟨hi1, hi2⟩, hr⟩

/-- Every operation of PROG_M has an encoding: CYCLE's count is the one that could lack it (R88). -/
theorem fixedMainOps_wf {c : Config} (hr : c.r ≠ 0) : ∀ i ∈ fixedMainOps c, i.wf = true := by
  have hc : (Instr.cycle c.profile c.r).wf = true := wf_cycle_iff.mpr hr
  simp only [fixedMainOps, List.forall_mem_cons, hc]
  decide

theorem decodeAll_fixedMain {c : Config} (hr : c.r ≠ 0) :
    decodeAll (fixedMain c) = some (fixedMainOps c) :=
  decodeAll_map_encode (fixedMainOps_wf hr)

theorem decodeAll_fixedIsr : decodeAll fixedIsr = some fixedIsrOps :=
  decodeAll_map_encode (by decide)

/-- Settles O28: the words decode to the operations of R96, which pass each check. -/
theorem fixedProgramsAreAdmitted : Obligations.FixedProgramsAreAdmitted := fun _ hr =>
  programFlaw_eq_none_iff.mpr
    ⟨_, _, decodeAll_fixedMain hr, decodeAll_fixedIsr, rfl, rfl, rfl, rfl, rfl⟩

/-- The ranges of R8. -/
theorem configInRange_iff {c : Config} :
    configInRange c = true ↔ c.r ≠ 0 ∧ 0 < c.tpm ∧ 32 ≤ c.maxZt := by
  simp [configInRange, and_assoc, Nat.one_le_iff_ne_zero, Nat.pos_iff_ne_zero]

/-! ### The wire frame -/

theorem levelOfDataBit_eq_ite (x : Bool) :
    levelOfDataBit x = if x = true then .low else .high := by cases x <;> rfl

@[simp] theorem payloadBit_levelOfDataBit (x : Bool) : payloadBit (levelOfDataBit x) = x := by
  cases x <;> rfl

/-- Settles O21: the frame's data slots run over j = 0..7, and a SEND's waits do not depend on its
bits. -/
theorem frameSlots : Obligations.FrameSlots := by
  intro b
  simp only [← levelOfDataBit_eq_ite]
  exact ⟨rfl, rfl⟩

theorem getElem_byteOfBits (bs : List Bool) {j : Nat} (hj : j < 8) :
    (byteOfBits bs)[j] = bs[j]?.getD false := by
  induction bs generalizing j with
  | nil => simp [byteOfBits]
  | cons b bs ih =>
    cases j with
    | zero => simp [byteOfBits]
    | succ j => simpa [byteOfBits, hj] using ih (Nat.lt_of_succ_lt hj)

/-- A byte is put together from its own bits (R81). -/
theorem byteOfBits_getLsbD (b : Byte) : byteOfBits ((List.range 8).map b.getLsbD) = b := by
  ext j hj
  simp [getElem_byteOfBits _ hj, hj]

theorem frameByte_frame (b : Byte) : frameByte (frame b) = b := by
  have hbits : ((frame b).drop 1 |>.take nData).map payloadBit = (List.range 8).map b.getLsbD := by
    simp [frame, nData, Function.comp_def]
  rw [frameByte, hbits, byteOfBits_getLsbD]

/-- Settles O22: the levels SEND queues carry the same eight bits as the slots. -/
theorem frameDecodesBack : Obligations.FrameDecodesBack := by
  intro b
  have hsent : sentBytes (expandSend b) = [frameByte (frame b)] := rfl
  exact ⟨frameByte_frame b, by rw [hsent, frameByte_frame]⟩

end Sys2Proof.Machine

/-! PROOF. The block with its two fixed programs: what each operation does, the invariant that every
step keeps, and its freedom of faults. -/

namespace Sys2Proof.Machine

/-! ### The fixed block: what the operation at each index does (R96) -/

/-- What PROG_M's operation at the main context's pc makes of the state (R96). -/
def State.mainNext (s : State) : State :=
  match s.m.pc with
  | 0 => { s with m := { s.m with pc := if s.arm = true then 1 else 9 } }
  | 1 => { s with m := { s.m with pc := 2, wait := ms s.par.cfg tWarmA } }
  | 2 => { s with m := { s.m with pc := 3 }, data := .driveLow }
  | 3 => { s with m := { s.m with pc := 4, wait := ms s.par.cfg tWarmB } }
  | 4 => { s with m := { s.m with pc := 5 }, gate := .driveLow }
  | 5 => { s with m := { s.m with pc := 6, wait := ms s.par.cfg tWarmC } }
  | 6 => { s with m := { s.m with
      pc := 7, q := expandCycle s.par.cfg s.par.cfg.profile s.par.cfg.r.toNat } }
  | 7 => { s with m := { s.m with pc := 8 }, data := .hiZ, gate := .hiZ }
  | 8 => { s with m := { s.m with pc := 9 }, arm := false }
  | 9 => { s with m := { s.m with pc := 10 }, halted := true }
  | _ => { s with m := { s.m with pc := 0 } }

/-- What PROG_I's operation at the interrupt context's pc makes of the state (R96). -/
def State.isrNext (s : State) : State :=
  match s.i.pc with
  | 0 => { s with i := { s.i with pc := 1 }, pending := false }
  | 1 => { s with i := { s.i with pc := if s.door = true then 7 else 2 } }
  | 2 => { s with i := { s.i with pc := 3 }, ie := false }
  | 3 => { s with i := { s.i with pc := 4, wait := ms s.par.cfg tDeb } }
  | 4 => { s with i := { s.i with pc := if s.door = true then 6 else 5 } }
  | 5 => { s with i := { s.i with pc := 6 }, arm := true }
  | 6 => { s with i := { s.i with pc := 7 }, ie := true }
  | _ => { s with i := { s.i with pc := 8 }, ctx := .main }

/-! What neither program's operations write -/

@[simp] theorem State.mainNext_ctx (s : State) : s.mainNext.ctx = s.ctx := by
  unfold State.mainNext
  split <;> rfl

@[simp] theorem State.mainNext_pending (s : State) : s.mainNext.pending = s.pending := by
  unfold State.mainNext
  split <;> rfl

@[simp] theorem State.mainNext_fault (s : State) : s.mainNext.fault = s.fault := by
  unfold State.mainNext
  split <;> rfl

@[simp] theorem State.mainNext_pos (s : State) : s.mainNext.pos = s.pos := by
  unfold State.mainNext
  split <;> rfl

@[simp] theorem State.mainNext_par (s : State) : s.mainNext.par = s.par := by
  unfold State.mainNext
  split <;> rfl

@[simp] theorem State.isrNext_fault (s : State) : s.isrNext.fault = s.fault := by
  unfold State.isrNext
  split <;> rfl

@[simp] theorem State.isrNext_pos (s : State) : s.isrNext.pos = s.pos := by
  unfold State.isrNext
  split <;> rfl

@[simp] theorem State.isrNext_par (s : State) : s.isrNext.par = s.par := by
  unfold State.isrNext
  split <;> rfl

@[simp] theorem State.isrNext_m (s : State) : s.isrNext.m = s.m := by
  unfold State.isrNext
  split <;> rfl

@[simp] theorem State.isrNext_halted (s : State) : s.isrNext.halted = s.halted := by
  unfold State.isrNext
  split <;> rfl

/-- A fetch of a word that decodes runs its operation (R122). -/
theorem fetchExec_of_decodeAll {s : State} {is : List Instr} {op : Instr} {k : Nat}
    (hd : decodeAll s.program = some is) (hk : s.cur.pc = k) (hop : is[k]? = some op) :
    fetchExec s = exec op (s.setPc (k + 1)) := by
  subst hk
  have hmap : (s.program.map decode)[s.cur.pc]? = some (.op op) := by
    rw [decodeAll_eq_some_iff.mp hd, List.getElem?_map, hop]
    rfl
  obtain ⟨w, hw, hdw⟩ := List.getElem?_map .. ▸ hmap |> Option.map_eq_some_iff.mp
  simp [fetchExec, hw, hdw]

/-- The main context's fetch in the fixed block: each index of PROG_M in turn. -/
theorem BlockInv.fetchExec_main {s : State} (h : BlockInv s) (hr : s.par.refusal = none)
    (hc : s.ctx = .main) : fetchExec s = .next s.mainNext := by
  have hd : decodeAll s.program = some (fixedMainOps s.par.cfg) := by
    rw [State.program, hc]
    exact h.progM ▸ decodeAll_fixedMain (configInRange_iff.mp (refusal_none_config hr)).1
  have hf {k : Nat} {op : Instr} (hk : s.m.pc = k) :=
    fetchExec_of_decodeAll (op := op) hd ((congrArg CtxState.pc (s.cur_main hc)).trans hk)
  match hk : s.m.pc, h.mPc with
  | 0, _ =>
    rw [hf hk rfl]
    cases ha : s.arm <;>
      simp [exec, execBna, State.setPc_main, State.cur, hc, ha, State.mainNext, hk]
  | 1, _ | 3, _ | 5, _ =>
    rw [hf hk rfl]
    simp [exec, execWait, State.setPc_main, State.setWait_main, hc, State.mainNext, hk]
  | 2, _ | 4, _ | 7, _ =>
    rw [hf hk rfl]
    simp [exec, execMode, State.setPc_main, hc, State.mainNext, hk, State.driveData,
      State.driveGate, dataOfMode, gateOfMode]
  | 6, _ =>
    rw [hf hk rfl]
    simp [exec, execCycle, State.setPc_main, State.setQ_main, hc, State.mainNext, hk]
  | 8, _ =>
    rw [hf hk rfl]
    simp [exec, execArmclr, State.setPc_main, State.setArm, hc, State.mainNext, hk]
  | 9, _ =>
    rw [hf hk rfl]
    simp [exec, execHalt, State.setPc_main, State.setHalted, hc, State.mainNext, hk]
  | 10, _ =>
    rw [hf hk rfl]
    simp [exec, execJmp, State.setPc_main, hc, State.mainNext, hk]

/-- The interrupt context's fetch in the fixed block: each index of PROG_I in turn. -/
theorem BlockInv.fetchExec_isr {s : State} (h : BlockInv s) (hc : s.ctx = .isr) :
    fetchExec s = .next s.isrNext := by
  have hd : decodeAll s.program = some fixedIsrOps := by
    rw [State.program, hc]
    exact h.progI ▸ decodeAll_fixedIsr
  have hf {k : Nat} {op : Instr} (hk : s.i.pc = k) :=
    fetchExec_of_decodeAll (op := op) hd ((congrArg CtxState.pc (s.cur_isr hc)).trans hk)
  match hk : s.i.pc, h.iPc hc with
  | 0, _ =>
    rw [hf hk rfl]
    simp [exec, execClrpend, State.setPc_isr, State.setPending, hc, State.isrNext, hk]
  | 1, _ | 4, _ =>
    rw [hf hk rfl]
    cases hd : s.door <;> rw [State.door] at hd <;>
      simp [exec, execBdo, State.setPc_isr, State.cur, hc, State.isrNext, hk, State.door, hd]
  | 2, _ =>
    rw [hf hk rfl]
    simp [exec, execIdis, State.setPc_isr, State.setIe, hc, State.isrNext, hk]
  | 3, _ =>
    rw [hf hk rfl]
    simp [exec, execWait, State.setPc_isr, State.setWait_isr, hc, State.isrNext, hk]
  | 5, _ =>
    rw [hf hk rfl]
    simp [exec, execArmset, State.setPc_isr, State.setArm, hc, State.isrNext, hk]
  | 6, _ =>
    rw [hf hk rfl]
    simp [exec, execIen, State.setPc_isr, State.setIe, hc, State.isrNext, hk]
  | 7, _ =>
    rw [hf hk rfl]
    simp [exec, execReti, State.setPc_isr, State.returnFromIsr, State.setCtx, hc, State.isrNext, hk]

/-! ### The invariant of the fixed block -/

/-- The clauses of `BlockInv` about the main context's record, the halt, ArmState and the lines. -/
structure MainClauses (m : CtxState) (halted arm : Bool) (data : DataDrive) (gate : GateDrive) :
    Prop where
  pc : m.pc ≤ 10
  queue : m.q ≠ [] → m.pc = 7
  halt : halted = true → m.pc = 10
  gate : gate = .driveLow ↔ 5 ≤ m.pc ∧ m.pc ≤ 7
  data : data = .hiZ ↔ m.pc ≤ 2 ∨ 8 ≤ m.pc
  armed : 1 ≤ m.pc ∧ m.pc ≤ 8 → arm = true

/-- The clauses of `BlockInv` about the interrupt context's record `i` and the enable `ie` while that
context runs, in the tick of `s`. -/
structure IsrClauses (s : State) (i : CtxState) (ie : Bool) : Prop where
  pc : i.pc ≤ 7
  queue : i.q = []
  ie : ie = true ↔ i.pc ≤ 2 ∨ i.pc = 7
  tick : i.pc ≠ 4 → i.wait = 0 ∧ s.pos.phase = .run
  entryClosed : i.pc = 2 ∨ i.pc = 3 → s.door = false
  window : i.pc = 4 →
    ∃ te, te + ms s.par.cfg tDeb = s.pos.t + i.wait ∧ s.par.inputs.doorAt te = false
  confirmed : i.pc = 5 → s.door = false ∧
    ∃ te, te + ms s.par.cfg tDeb = s.pos.t ∧ s.par.inputs.doorAt te = false

namespace BlockInv

variable {s t : State}

theorem mainClauses (h : BlockInv s) : MainClauses s.m s.halted s.arm s.data s.gate where
  pc := h.mPc
  queue := h.mQueue
  halt := h.halt
  gate := h.gate
  data := h.data
  armed := h.armed

/-- An operation of the main context leaves the interrupt context's clauses empty. -/
theorem withMain (h : BlockInv s) (hc : s.ctx = .main) {m : CtxState} {halted arm : Bool}
    {data : DataDrive} {gate : GateDrive} (hm : MainClauses m halted arm data gate) :
    BlockInv { s with m := m, halted := halted, arm := arm, data := data, gate := gate } :=
  { h with
    mPc := hm.pc
    mQueue := hm.queue
    halt := hm.halt
    gate := hm.gate
    data := hm.data
    armed := hm.armed
    isrAwake := by simp [hc] }

/-- An operation of PROG_I writes its own record, `pending` and `ie`, and of ArmState at most true. -/
theorem withIsr (h : BlockInv s) (hc : s.ctx = .isr) {i : CtxState} {pending ie arm : Bool}
    (harm : s.arm = true → arm = true) (hi : IsrClauses s i ie) :
    BlockInv { s with i := i, pending := pending, ie := ie, arm := arm } :=
  { h with
    armed := fun hm => harm (h.armed hm)
    iPc := fun _ => hi.pc
    iQueue := hi.queue
    ieMain := by simp [hc]
    ieIsr := fun _ => hi.ie
    isrTick := fun _ => hi.tick
    entryClosed := fun _ => hi.entryClosed
    window := fun _ => hi.window
    confirmed := fun _ => hi.confirmed }

/-- PROG_M's operation keeps the invariant (R232, R237, R238). -/
theorem mainNext (h : BlockInv s) (hc : s.ctx = .main) (hq : s.m.q = []) (hh : s.halted = false) :
    BlockInv s.mainNext := by
  obtain ⟨hpc, -, -, hgate, hdata, harmed⟩ := h.mainClauses
  rw [State.mainNext]
  match hk : s.m.pc, hpc with
  | 0, _ =>
    refine h.withMain hc (m := _) ?_
    cases ha : s.arm <;> constructor <;> simp_all
  | 1, _ | 2, _ | 3, _ | 4, _ | 5, _ | 6, _ | 7, _ | 8, _ | 9, _ | 10, _ =>
    refine h.withMain hc (m := _) ?_
    constructor <;> simp_all

/-- PROG_I's operation keeps the invariant (R195, R199, R200, R310). -/
theorem isrNext (h : BlockInv s) (hc : s.ctx = .isr) (hw : s.i.wait = 0)
    (hp : s.pos.phase = .run) : BlockInv s.isrNext := by
  have hq := h.iQueue
  have hie := h.ieIsr hc
  have hdoor := h.entryClosed hc
  have hwin := h.window hc
  rw [State.isrNext]
  match hk : s.i.pc, h.iPc hc with
  | 7, _ =>
    exact { h with
      ieMain := fun _ => hie.mpr (.inr hk)
      iPc := nofun
      isrAwake := nofun
      ieIsr := nofun
      isrTick := nofun
      entryClosed := nofun
      window := nofun
      confirmed := nofun }
  -- BDO: the entry sample, and the sample that ends the window (R193, R200).
  | 1, _ | 4, _ =>
    refine h.withIsr hc (i := _) id ?_
    cases hd : s.door <;> constructor <;> simp_all
  -- WAIT: the window starts in this tick, te = t, with the door closed (R195).
  | 3, _ =>
    refine h.withIsr hc (i := _) id ?_
    constructor <;> simp_all [State.door]
  | 5, _ =>
    refine h.withIsr hc (i := _) (fun _ => rfl) ?_
    constructor <;> simp_all
  | 0, _ | 2, _ | 6, _ =>
    refine h.withIsr hc (i := _) id ?_
    constructor <;> simp_all

theorem setWait (h : BlockInv s) (hc : s.ctx = .main) (n : Nat) : BlockInv (s.setWait n) := by
  rw [s.setWait_main n hc]
  obtain ⟨hpc, hq, hhalt, hgate, hdata, harmed⟩ := h.mainClauses
  exact h.withMain hc ⟨hpc, hq, hhalt, hgate, hdata, harmed⟩

/-- Only CYCLE (index 6) queues primitives. -/
theorem setQ (h : BlockInv s) (hc : s.ctx = .main) (hpc : s.m.pc = 7) (q : List Prim) :
    BlockInv (s.setQ q) := by
  rw [s.setQ_main q hc]
  exact h.withMain hc { h.mainClauses with queue := fun _ => hpc }

/-- The data line is driven from step a to step e (R237). -/
theorem driveData (h : BlockInv s) (hc : s.ctx = .main) (hpc : s.m.pc = 7) {d : DataDrive}
    (hd : d ≠ .hiZ) : BlockInv (s.driveData d) :=
  h.withMain hc { h.mainClauses with data := by simp [hpc, hd] }

/-- Only the main context has anything queued (R94). -/
theorem main_of_queue (h : BlockInv s) {p : Prim} {ps : List Prim} (hq : s.cur.q = p :: ps) :
    s.ctx = .main := by
  cases hc : s.ctx with
  | main => rfl
  | isr => simp [s.cur_isr hc, h.iQueue] at hq

/-- A queued primitive, which only CYCLE queues (R125, R171). -/
theorem queuedPrim (h : BlockInv s) {p : Prim} {ps : List Prim} (hq : s.cur.q = p :: ps) :
    BlockInv (execPrim p (s.setQ ps)) := by
  have hc := h.main_of_queue hq
  have hpc : s.m.pc = 7 := h.mQueue (by simp [← s.cur_main hc, hq])
  have h' := h.setQ hc hpc ps
  cases p with
  | plvl v => exact h'.driveData (by simp [hc]) (by simp [hpc]) (by cases v <;> decide)
  | pwait n => exact h'.setWait (by simp [hc]) _

theorem countOperation (h : BlockInv s) : BlockInv s.countOperation := { h with }

theorem countOpportunity (h : BlockInv s) : BlockInv s.countOpportunity := { h with }

theorem raise_zeroTimeLoop (h : BlockInv s) : BlockInv (s.raise .zeroTimeLoop) :=
  { h with noPcFault := nofun }

theorem sampleDoor (h : BlockInv s) : BlockInv s.sampleDoor :=
  { h with isrTick := fun hc hk => ⟨(h.isrTick hc hk).1, rfl⟩ }

/-- A delivery starts PROG_I at index 0, with delivery still enabled (R264). -/
theorem deliver (h : BlockInv s) (hc : s.ctx = .main) (hp : s.pos.phase = .run) :
    BlockInv s.deliver :=
  { h with
    iPc := fun _ => Nat.zero_le _
    iQueue := rfl
    halt := nofun
    isrAwake := fun _ => rfl
    ieMain := nofun
    ieIsr := fun _ => by simp [h.ieMain hc]
    isrTick := fun _ _ => ⟨rfl, hp⟩
    entryClosed := fun _ => by simp
    window := fun _ => nofun
    confirmed := fun _ => nofun }

/-- The main context's tick touches nothing the clauses speak of. -/
theorem endTick (h : BlockInv s) (hc : s.ctx = .main) : BlockInv s.endTick :=
  { h with
    isrTick := by simp [hc]
    entryClosed := by simp [hc]
    window := by simp [hc]
    confirmed := by simp [hc] }

/-- The interrupt context consumes a tick at index 4 alone, one tick nearer the window's end (R195). -/
theorem spendTick (h : BlockInv s) (hw : 0 < s.cur.wait) : BlockInv s.spendTick := by
  cases hc : s.ctx with
  | main => exact (h.setWait hc _).endTick (by simp [hc])
  | isr =>
    rw [s.cur_isr hc] at hw
    have hk : s.i.pc = 4 := by
      by_contra hk
      have := (h.isrTick hc hk).1
      omega
    obtain ⟨te, ht, hd⟩ := h.window hc hk
    rw [s.spendTick_isr hc]
    exact { h with
      isrTick := fun _ hk' => absurd hk hk'
      entryClosed := by simp [hk]
      window := fun _ _ => ⟨te, by simp; omega, hd⟩
      confirmed := by simp [hk] }

/-- A fetch never leaves its program (R97). -/
theorem of_fetchExec (h : BlockInv s) (hr : s.par.refusal = none) (hp : s.pos.phase = .run)
    (hi : s.idles = false) (hq : s.cur.q = []) (hw : s.cur.wait = 0)
    (he : fetchExec s = .next t) : BlockInv t := by
  cases hc : s.ctx with
  | main =>
    rw [s.cur_main hc] at hq
    obtain rfl := Host.Outcome.next.inj ((h.fetchExec_main hr hc).symm.trans he)
    exact h.mainNext hc hq (by simpa [State.idles, hc] using hi)
  | isr =>
    rw [s.cur_isr hc] at hw
    obtain rfl := Host.Outcome.next.inj ((h.fetchExec_isr hc).symm.trans he)
    exact h.isrNext hc hw hp

theorem of_loopBody (h : BlockInv s) (hr : s.par.refusal = none) (hp : s.pos.phase = .run)
    (he : loopBody s = .next t) : BlockInv t := by
  obtain ⟨hw, hb⟩ | ⟨-, hi, hb⟩ | ⟨-, -, -, hb⟩ | ⟨-, -, -, p, ps, hq, hb⟩ |
    ⟨hw, hi, -, hq, hb⟩ := loopBody_cases s
  · obtain rfl := Host.Outcome.next.inj (hb.symm.trans he)
    exact h.spendTick hw
  · obtain rfl := Host.Outcome.next.inj (hb.symm.trans he)
    exact h.endTick ((idles_iff s).mp hi).1
  · obtain rfl := Host.Outcome.next.inj (hb.symm.trans he)
    exact h.raise_zeroTimeLoop
  · obtain rfl := Host.Outcome.next.inj (hb.symm.trans he)
    exact h.countOperation.queuedPrim hq
  · exact h.countOperation.of_fetchExec hr hp hi hq hw (hb.symm.trans he)

theorem of_step (h : BlockInv s) (he : step s = .next t) : BlockInv t := by
  obtain ⟨-, hs⟩ | ⟨-, r, -, hs⟩ |
    ⟨-, hr, ⟨-, hs⟩ | ⟨hp, ho, -, hs⟩ | ⟨hp, -, -, hs⟩ | ⟨hp, -, hs⟩⟩ := step_cases s
  · obtain rfl := Host.Outcome.next.inj (hs.symm.trans he)
    exact h
  · simp [hs] at he
  · obtain rfl := Host.Outcome.next.inj (hs.symm.trans he)
    exact h.sampleDoor
  · obtain rfl := Host.Outcome.next.inj (hs.symm.trans he)
    exact h.countOpportunity.deliver ((opportunity_iff s).mp ho).1 hp
  · exact h.countOpportunity.of_loopBody hr hp (hs.symm.trans he)
  · exact h.of_loopBody hr hp (hs.symm.trans he)

end BlockInv

/-- Settles O41, by what a step can do, the fixed programs' operations index by index. -/
theorem stepKeepsBlockInv : Obligations.StepKeepsBlockInv := fun _ _ h he => h.of_step he

end Sys2Proof.Machine

namespace Sys2Proof.Machine

/-! ### Queues in which every level is held (R125, R151, R171) -/

theorem queueWaits_append {a b : List Prim} (ha : queueWaits a = true) (hb : queueWaits b = true) :
    queueWaits (a ++ b) = true := by
  induction a with
  | nil => exact hb
  | cons p ps ih =>
    cases p with
    | pwait n => simp_all [queueWaits]
    | plvl v =>
      cases ps with
      | nil => simp [queueWaits] at ha
      | cons p ps => cases p <;> simp_all [queueWaits]

theorem queueWaits_flatten {qs : List (List Prim)} (h : ∀ q ∈ qs, queueWaits q = true) :
    queueWaits qs.flatten = true := by
  induction qs with
  | nil => rfl
  | cons q qs ih =>
    rw [List.forall_mem_cons] at h
    exact queueWaits_append h.1 (ih h.2)

theorem queueWaits_expandSend (b : Byte) : queueWaits (expandSend b) = true := rfl

theorem queueWaits_expandGroup (c : Config) (p : Profile) (k : Nat) :
    queueWaits (expandGroup c p k) = true := by
  have hs := queueWaits_expandSend
  exact queueWaits_append (queueWaits_append (queueWaits_append (queueWaits_append
    (hs _) (hs _)) (hs _)) (hs _)) (by decide)

theorem queueWaits_expandCycle (c : Config) (p : Profile) (r : Nat) :
    queueWaits (expandCycle c p r) = true := by
  have hrep : queueWaits (expandRepetition c p) = true := by
    refine queueWaits_flatten fun q hq => ?_
    obtain ⟨x, -, rfl⟩ := List.mem_map.mp hq
    exact queueWaits_expandGroup ..
  exact queueWaits_flatten fun q hq => List.eq_of_mem_replicate hq ▸ hrep

/-- A CYCLE that repeats at all starts by driving a level. -/
theorem expandCycle_eq_cons (c : Config) (p : Profile) {r : Nat} (hr : r ≠ 0) :
    ∃ ps, expandCycle c p r = .plvl .high :: ps := by
  obtain ⟨n, rfl⟩ := Nat.exists_eq_succ_of_ne_zero hr
  exact ⟨_, rfl⟩

/-! ### The zero-time operations still to come (R312) -/

theorem ms_pos {c : Config} {n : Ms} (hc : 0 < c.tpm) (hn : n ≠ 0) : 0 < ms c n :=
  Nat.mul_pos (Nat.pos_of_ne_zero (BitVec.toNat_inj.not.mpr hn)) hc

section Left

variable {s t : State}

theorem mainLeft_congr (hm : t.m = s.m) (hh : t.halted = s.halted) : t.mainLeft = s.mainLeft := by
  simp only [State.mainLeft, hm, hh]

theorem mainLeft_of_wait (h : 0 < s.m.wait) : s.mainLeft = 0 := by simp [State.mainLeft, h]

theorem mainLeft_of_queue (hw : s.m.wait = 0) (hh : s.halted = false) {p : Prim} {ps : List Prim}
    (hq : s.m.q = p :: ps) : s.mainLeft = primsUntilWait (p :: ps) := by
  simp [State.mainLeft, hw, hh, hq]

theorem mainLeft_le : s.mainLeft ≤ 3 := by
  unfold State.mainLeft
  split
  · omega
  split
  · cases hq : s.m.q with
    | nil => simp [primsUntilWait]
    | cons p ps => cases p <;> simp [primsUntilWait]
  · split <;> omega

theorem mainLeft_pos (hw : s.m.wait = 0) (hh : s.halted = false) : 0 < s.mainLeft := by
  cases hq : s.m.q with
  | cons p ps =>
    rw [mainLeft_of_queue hw hh hq]
    cases p <;> simp [primsUntilWait]
  | nil =>
    simp only [State.mainLeft, hw, hh, hq, lt_irrefl, Bool.false_eq_true, or_self, if_false,
      ne_eq, not_true_eq_false]
    split <;> omega

theorem isrLeft_le : s.isrLeft ≤ 4 := by
  unfold State.isrLeft
  split <;> omega

theorem isrLeft_pos : 0 < s.isrLeft := by
  unfold State.isrLeft
  split <;> omega

theorem zeroTimeLeft_main (hc : s.ctx = .main) :
    s.zeroTimeLeft = s.mainLeft + if s.pending = true then 7 else 0 := by
  simp [State.zeroTimeLeft, hc]

theorem zeroTimeLeft_isr (hc : s.ctx = .isr) (hw : s.i.wait = 0) :
    s.zeroTimeLeft =
      s.isrLeft + s.mainLeft + if s.pending = true ∧ s.i.pc ≠ 0 then 7 else 0 := by
  simp [State.zeroTimeLeft, hc, hw]

theorem zeroTimeLeft_of_isrWait (hc : s.ctx = .isr) (hw : 0 < s.i.wait) : s.zeroTimeLeft = 0 := by
  simp [State.zeroTimeLeft, hc, hw]

theorem zeroTimeLeft_le : s.zeroTimeLeft ≤ 14 := by
  have hm := mainLeft_le (s := s)
  have hi := isrLeft_le (s := s)
  unfold State.zeroTimeLeft
  split
  · split <;> omega
  · split_ifs <;> omega

theorem zeroTimeLeft_pos (hw : s.cur.wait = 0) (hi : s.idles = false) : 0 < s.zeroTimeLeft := by
  cases hc : s.ctx with
  | main =>
    rw [s.cur_main hc] at hw
    have := mainLeft_pos hw (by simpa [State.idles, hc] using hi)
    rw [zeroTimeLeft_main hc]
    omega
  | isr =>
    rw [s.cur_isr hc] at hw
    have := isrLeft_pos (s := s)
    rw [zeroTimeLeft_isr hc hw]
    omega

/-- Where nothing of the interrupt's share changes, the main context's own count decides. -/
theorem zeroTimeLeft_lt_of_main (hs : s.ctx = .main) (ht : t.ctx = .main)
    (hp : t.pending = s.pending) (h : t.mainLeft < s.mainLeft) :
    t.zeroTimeLeft < s.zeroTimeLeft := by
  rw [zeroTimeLeft_main hs, zeroTimeLeft_main ht, hp]
  omega

/-- Every operation of PROG_M brings its wait, its queue's wait or the halt nearer (R312). -/
theorem mainLeft_mainNext (hpc : s.m.pc ≤ 10) (hq : s.m.q = []) (hw : s.m.wait = 0)
    (hh : s.halted = false) (ht : 0 < s.par.cfg.tpm) (hr : s.par.cfg.r ≠ 0) :
    s.mainNext.mainLeft < s.mainLeft := by
  have hA : 0 < ms s.par.cfg tWarmA := ms_pos ht (by decide)
  have hB : 0 < ms s.par.cfg tWarmB := ms_pos ht (by decide)
  have hC : 0 < ms s.par.cfg tWarmC := ms_pos ht (by decide)
  obtain ⟨ps, hps⟩ :=
    expandCycle_eq_cons s.par.cfg s.par.cfg.profile (BitVec.toNat_inj.not.mpr hr)
  match hk : s.m.pc, hpc with
  | 0, _ => cases ha : s.arm <;> simp [State.mainNext, State.mainLeft, *]
  | 6, _ => simp [State.mainNext, State.mainLeft, *, primsUntilWait]
  | 1, _ | 2, _ | 3, _ | 4, _ | 5, _ | 7, _ | 8, _ | 9, _ | 10, _ =>
    simp [State.mainNext, State.mainLeft, *]

/-- Every operation of PROG_I brings its wait or its RETI nearer; CLRPEND at index 0 takes the pending
interrupt's share with it (R312). -/
theorem zeroTimeLeft_isrNext (hc : s.ctx = .isr) (hpc : s.i.pc ≤ 7) (hw : s.i.wait = 0)
    (ht : 0 < s.par.cfg.tpm) : s.isrNext.zeroTimeLeft < s.zeroTimeLeft := by
  have hm : s.isrNext.mainLeft = s.mainLeft := mainLeft_congr s.isrNext_m s.isrNext_halted
  have hdeb : 0 < ms s.par.cfg tDeb := ms_pos ht (by decide)
  rw [zeroTimeLeft_isr hc hw]
  match hk : s.i.pc, hpc with
  | 3, _ =>
    rw [zeroTimeLeft_of_isrWait (by simp [State.isrNext, hk, hc]) (by simpa [State.isrNext, hk])]
    simp [State.isrLeft, hk]
  | 7, _ =>
    rw [zeroTimeLeft_main (by simp [State.isrNext, hk]), hm]
    simp [State.isrNext, State.isrLeft, hk]
  | 1, _ | 4, _ =>
    rw [zeroTimeLeft_isr (by simp [State.isrNext, hk, hc]) (by simp [State.isrNext, hk, hw]), hm]
    cases hd : s.door <;> simp [State.isrNext, State.isrLeft, hk, hd]
  | 0, _ | 2, _ | 5, _ | 6, _ =>
    rw [zeroTimeLeft_isr (by simp [State.isrNext, hk, hc]) (by simp [State.isrNext, hk, hw]), hm]
    simp [State.isrNext, State.isrLeft, hk]

end Left

/-! ### Freedom of faults -/

/-- From `s` to `t` one zero-time operation runs: fewer are left, and every level of the queue is still
held. -/
structure RunsDown (s t : State) : Prop where
  fault : t.fault = s.fault
  pos : t.pos = s.pos
  par : t.par = s.par
  queue : queueWaits t.m.q = true
  left : t.zeroTimeLeft < s.zeroTimeLeft

namespace RunsDown

variable {s : State}

/-- A queued level is followed by its wait, and a queued wait by ticks (R125). -/
theorem queuedPrim (hr : configInRange s.par.cfg = true) (hqw : queueWaits s.m.q = true)
    (hc : s.ctx = .main) (hw : s.m.wait = 0) (hh : s.halted = false) {p : Prim} {ps : List Prim}
    (hq : s.m.q = p :: ps) : RunsDown s (execPrim p (s.setQ ps)) := by
  have ht := (configInRange_iff.mp hr).2.1
  rw [hq] at hqw
  have hleft := mainLeft_of_queue hw hh hq
  cases p with
  | plvl v =>
    cases ps with
    | nil => simp [queueWaits] at hqw
    | cons p ps =>
      cases p with
      | plvl v => simp [queueWaits] at hqw
      | pwait n =>
        have hleft' := mainLeft_of_queue (s := execPrim (.plvl v) (s.setQ (.pwait n :: ps)))
          (p := .pwait n) (ps := ps) (by simp [hw]) (by simp [hh]) (by simp [s.setQ_main _ hc])
        refine ⟨by simp, by simp, by simp, ?_, ?_⟩
        · simpa [s.setQ_main _ hc, queueWaits] using hqw
        · refine zeroTimeLeft_lt_of_main hc (by simp [hc]) (by simp) ?_
          rw [hleft, hleft']
          simp [primsUntilWait]
  | pwait n =>
    simp only [queueWaits, Bool.and_eq_true, decide_eq_true_eq] at hqw
    have hleft' : (execPrim (.pwait n) (s.setQ ps)).mainLeft = 0 := mainLeft_of_wait (by
      have := ms_pos ht hqw.1
      simpa [s.setQ_main _ hc, State.setWait, State.setCur, hc])
    refine ⟨by simp, by simp, by simp, ?_, ?_⟩
    · simpa [s.setQ_main _ hc] using hqw.2
    · refine zeroTimeLeft_lt_of_main hc (by simp [hc]) (by simp) ?_
      rw [hleft, hleft']
      simp [primsUntilWait]

theorem mainNext (hr : configInRange s.par.cfg = true) (hb : BlockInv s)
    (hc : s.ctx = .main) (hw : s.m.wait = 0) (hh : s.halted = false) (hq : s.m.q = []) :
    RunsDown s s.mainNext where
  fault := s.mainNext_fault
  pos := s.mainNext_pos
  par := s.mainNext_par
  queue := by
    unfold State.mainNext
    split <;> simp [hq, queueWaits_expandCycle, queueWaits]
  left := by
    obtain ⟨hr, ht, -⟩ := configInRange_iff.mp hr
    exact zeroTimeLeft_lt_of_main hc (s.mainNext_ctx.trans hc) s.mainNext_pending
      (mainLeft_mainNext hb.mPc hq hw hh ht hr)

theorem isrNext (hr : configInRange s.par.cfg = true) (hqw : queueWaits s.m.q = true)
    (hb : BlockInv s) (hc : s.ctx = .isr) (hw : s.i.wait = 0) : RunsDown s s.isrNext where
  fault := s.isrNext_fault
  pos := s.isrNext_pos
  par := s.isrNext_par
  queue := by rwa [s.isrNext_m]
  left := zeroTimeLeft_isrNext hc (hb.iPc hc) hw (configInRange_iff.mp hr).2.1

end RunsDown

namespace FaultFreeInv

variable {s t : State}

theorem countOpportunity (h : FaultFreeInv s) : FaultFreeInv s.countOpportunity :=
  { h with block := h.block.countOpportunity }

theorem sampleDoor (h : FaultFreeInv s) : FaultFreeInv s.sampleDoor :=
  { h with
    block := h.block.sampleDoor
    zeroTime := fun _ => by simpa using zeroTimeLeft_le }

/-- A delivery costs the 4 operations of PROG_I and the 3 of a main context it wakes, which is the share
of a pending interrupt (R312). -/
theorem deliver (h : FaultFreeInv s) (hc : s.ctx = .main) (hpend : s.pending = true)
    (hp : s.pos.phase = .run) : FaultFreeInv s.deliver :=
  { h with
    block := h.block.deliver hc hp
    zeroTime := fun _ => by
      have hz := h.zeroTime hp
      have hm := mainLeft_le (s := s.deliver)
      rw [zeroTimeLeft_main hc, if_pos hpend] at hz
      rw [zeroTimeLeft_isr rfl rfl]
      simp [State.isrLeft]
      omega }

/-- The tick is consumed: none of it is left. -/
theorem endTick (h : FaultFreeInv s) (hb : BlockInv s.endTick) : FaultFreeInv s.endTick :=
  { h with block := hb, zeroTime := nofun }

theorem spendTick (h : FaultFreeInv s) (hw : 0 < s.cur.wait) : FaultFreeInv s.spendTick where
  block := h.block.spendTick hw
  config := by simpa [State.spendTick] using h.config
  noFault := by simpa [State.spendTick] using h.noFault
  queue := by simpa [State.spendTick] using h.queue
  zeroTime := by simp [State.spendTick]

/-- The operation counted is one that was still to come. -/
theorem of_runsDown (h : FaultFreeInv s) (hp : s.pos.phase = .run) (hb : BlockInv t)
    (hd : RunsDown s.countOperation t) : FaultFreeInv t where
  block := hb
  config := hd.par ▸ h.config
  noFault := hd.fault.trans h.noFault
  queue := hd.queue
  zeroTime := fun _ => by
    have hz := h.zeroTime hp
    have hl : t.zeroTimeLeft < s.zeroTimeLeft := hd.left
    rw [hd.pos, State.countOperation_pos]
    dsimp only
    omega

/-- What the loop body runs does not exceed MAX_ZT, and no fetch leaves its program (R97, R312). -/
theorem of_loopBody (h : FaultFreeInv s) (hr : s.par.refusal = none) (hp : s.pos.phase = .run)
    (he : loopBody s = .next t) : FaultFreeInv t := by
  have hb := h.block.of_loopBody hr hp he
  have hcount := h.block.countOperation
  obtain ⟨hw, hl⟩ | ⟨-, hi, hl⟩ | ⟨hw, hi, hz, hl⟩ | ⟨hw, hi, -, p, ps, hq, hl⟩ |
    ⟨hw, hi, -, hq, hl⟩ := loopBody_cases s
  · obtain rfl := Host.Outcome.next.inj (hl.symm.trans he)
    exact h.spendTick hw
  · obtain rfl := Host.Outcome.next.inj (hl.symm.trans he)
    exact h.endTick hb
  · have hleft := zeroTimeLeft_pos hw hi
    have hbound := h.zeroTime hp
    have hmax := (configInRange_iff.mp h.config).2.2
    omega
  · obtain rfl := Host.Outcome.next.inj (hl.symm.trans he)
    have hc := h.block.main_of_queue hq
    rw [s.cur_main hc] at hw hq
    exact h.of_runsDown hp hb (.queuedPrim (s := s.countOperation) h.config h.queue hc hw
      (by simpa [State.idles, hc] using hi) hq)
  · cases hc : s.ctx with
    | main =>
      rw [s.cur_main hc] at hw hq
      obtain rfl :=
        Host.Outcome.next.inj ((hcount.fetchExec_main hr hc).symm.trans (hl.symm.trans he))
      exact h.of_runsDown hp hb
        (.mainNext h.config hcount hc hw (by simpa [State.idles, hc] using hi) hq)
    | isr =>
      rw [s.cur_isr hc] at hw
      obtain rfl :=
        Host.Outcome.next.inj ((hcount.fetchExec_isr hc).symm.trans (hl.symm.trans he))
      exact h.of_runsDown hp hb (.isrNext h.config h.queue hcount hc hw)

theorem of_step (h : FaultFreeInv s) (he : step s = .next t) : FaultFreeInv t := by
  obtain ⟨-, hs⟩ | ⟨-, r, -, hs⟩ |
    ⟨-, hr, ⟨-, hs⟩ | ⟨hp, ho, -, hs⟩ | ⟨hp, -, -, hs⟩ | ⟨hp, -, hs⟩⟩ := step_cases s
  · obtain rfl := Host.Outcome.next.inj (hs.symm.trans he)
    exact h
  · simp [hs] at he
  · obtain rfl := Host.Outcome.next.inj (hs.symm.trans he)
    exact h.sampleDoor
  · obtain rfl := Host.Outcome.next.inj (hs.symm.trans he)
    obtain ⟨hc, hpend, -⟩ := (opportunity_iff s).mp ho
    exact h.countOpportunity.deliver hc hpend hp
  · exact h.countOpportunity.of_loopBody hr hp (hs.symm.trans he)
  · exact h.of_loopBody hr hp (hs.symm.trans he)

/-- The fixed block in a configuration of R8's ranges is an admitted run (R95, R97). -/
theorem refusal_eq_none (h : FaultFreeInv s) : s.par.refusal = none := by
  have hadm := fixedProgramsAreAdmitted s.par.cfg (configInRange_iff.mp h.config).1
  simp [Params.refusal, h.config, h.block.progM, h.block.progI, hadm]

theorem step_answers (h : FaultFreeInv s) : ∃ t, step s = .next t := by
  obtain ⟨-, r, hr, -⟩ | ⟨-, ht⟩ := step_refuses_or_answers s
  · simp [h.refusal_eq_none] at hr
  · exact ht

/-- Every run from such a state answers such a state. -/
theorem run (n : Nat) (h : FaultFreeInv s) :
    ∃ t, Host.Core.run Sys2Proof.core n s = .next t ∧ FaultFreeInv t := by
  induction n generalizing s with
  | zero => exact ⟨s, rfl, h⟩
  | succ n ih =>
    obtain ⟨u, hu⟩ := h.step_answers
    obtain ⟨t, ht, hf⟩ := ih (h.of_step hu)
    refine ⟨t, ?_, hf⟩
    have hu : Sys2Proof.core.step s = .next u := hu
    simpa [Host.Core.run, hu] using ht

end FaultFreeInv

/-- Settles O58: every zero-time operation leaves at least one fewer to come, and a delivery adds no more
than a pending interrupt counts for. -/
theorem stepKeepsFaultFreeInv : Obligations.StepKeepsFaultFreeInv := fun _ _ h he => h.of_step he

/-- Settles O57: reset has the invariant, every step keeps it, and it has no fault. -/
theorem fixedBlockNeverFaults : Obligations.FixedBlockNeverFaults := by
  intro c x n hc
  obtain ⟨t, ht, h⟩ := ((resetHasBlockInv c x).2 hc).run n
  exact ⟨t, ht, h.noFault⟩

/-! ### The interrupt context leaves the main context and the lines alone (R94, R267, R305) -/

/-- The main context's record, both lines and the halt are the same in both states. -/
structure KeepsMain (s t : State) : Prop where
  m : t.m = s.m
  data : t.data = s.data
  gate : t.gate = s.gate
  halted : t.halted = s.halted

/-- An operation that R94 admits in PROG_I writes none of them. -/
theorem KeepsMain.of_exec {op : Instr} {s t : State} (he : exec op s = .next t)
    (hc : s.ctx = .isr) (ha : op.admittedIn .isr = true) : KeepsMain s t where
  m := exec_m_of_isr he hc
  data := by
    by_contra hne
    obtain ⟨v, rfl⟩ | ⟨g, m, rfl⟩ := exec_data he hne
    · cases ha
    · cases ha
  gate := by
    by_contra hne
    obtain ⟨d, m, rfl⟩ := exec_gate he hne
    cases ha
  halted := by
    by_contra hne
    obtain rfl := exec_halted he hne
    cases ha

/-- What the interrupt context leaves alone, and its one way back to the main context (R198). -/
structure IsrFrame (s t : State) : Prop extends KeepsMain s t where
  returns : t.ctx = .main → ∃ w, s.par.progI[s.i.pc]? = some w ∧ decode w = .op .reti

namespace IsrFrame

variable {s t : State}

theorem of_fetchExec (hr : s.par.refusal = none) (hc : s.ctx = .isr)
    (he : fetchExec s = .next t) : IsrFrame s t := by
  obtain ⟨-, hf⟩ | ⟨w, op, u, hw, hd, ha, -, hx, hf⟩ := fetchExec_cases hr
  · obtain rfl := Host.Outcome.next.inj (hf.symm.trans he)
    exact ⟨⟨rfl, rfl, rfl, rfl⟩, by simp [hc]⟩
  · obtain rfl := Host.Outcome.next.inj (hf.symm.trans he)
    rw [s.setPc_isr _ hc] at hx
    obtain ⟨hm, hdata, hgate, hh⟩ := KeepsMain.of_exec hx hc (hc ▸ ha)
    refine ⟨⟨hm, hdata, hgate, hh⟩, fun hmain => ?_⟩
    obtain rfl := exec_ctx hx (by simp [hmain, hc])
    exact (fetched_by_isr hw hd ha rfl).2

/-- The interrupt context waits, or it fetches (R121). -/
theorem of_loopBody (hr : s.par.refusal = none) (hc : s.ctx = .isr) (hq : s.i.q = [])
    (he : loopBody s = .next t) : IsrFrame s t := by
  obtain ⟨-, hb⟩ | ⟨-, hi, -⟩ | ⟨-, -, -, hb⟩ | ⟨-, -, -, p, ps, hq', -⟩ | ⟨-, -, -, -, hb⟩ :=
    loopBody_cases s
  · obtain rfl := Host.Outcome.next.inj (hb.symm.trans he)
    rw [s.spendTick_isr hc]
    exact ⟨⟨rfl, rfl, rfl, rfl⟩, by simp [hc]⟩
  · simp [State.idles, hc] at hi
  · obtain rfl := Host.Outcome.next.inj (hb.symm.trans he)
    exact ⟨⟨rfl, rfl, rfl, rfl⟩, by simp [hc]⟩
  · simp [s.cur_isr hc, hq] at hq'
  · obtain ⟨⟨hm, hdata, hgate, hh⟩, hreti⟩ :=
      of_fetchExec (s := s.countOperation) hr hc (hb.symm.trans he)
    exact ⟨⟨hm, hdata, hgate, hh⟩, hreti⟩

/-- There is no delivery opportunity in the interrupt context (R265). -/
theorem of_step (hc : s.ctx = .isr) (hq : s.i.q = []) (he : step s = .next t) : IsrFrame s t := by
  have ho : s.opportunity = false := by simp [State.opportunity, hc]
  obtain ⟨-, hs⟩ | ⟨-, r, -, hs⟩ |
    ⟨-, hr, ⟨-, hs⟩ | ⟨-, ho', -⟩ | ⟨-, ho', -⟩ | ⟨-, -, hs⟩⟩ := step_cases s
  · obtain rfl := Host.Outcome.next.inj (hs.symm.trans he)
    exact ⟨⟨rfl, rfl, rfl, rfl⟩, by simp [hc]⟩
  · simp [hs] at he
  · obtain rfl := Host.Outcome.next.inj (hs.symm.trans he)
    exact ⟨⟨rfl, rfl, rfl, rfl⟩, by simp [hc]⟩
  · simp [ho] at ho'
  · simp [ho] at ho'
  · exact of_loopBody hr hc hq (hs.symm.trans he)

end IsrFrame

/-- Settles O48: the interrupt context waits, or fetches an operation that R94 admits in PROG_I. -/
theorem isrFreezesMainAndLines : Obligations.IsrFreezesMainAndLines := fun _ _ hc hq he =>
  have h := IsrFrame.of_step hc hq he
  ⟨h.m, h.data, h.gate, h.halted, h.returns⟩

end Sys2Proof.Machine

/-! PROOF. Execution: what a pass of the run loop does with its next operation or primitive, and
the tick as a run of steps. -/

namespace Sys2Proof.Machine

/-! ### WAIT and JMP -/

/-- Settles O5: `ms(n)` goes into the live context's record. -/
theorem waitLoadsCounter : Obligations.WaitLoadsCounter := fun n s =>
  ⟨rfl, rfl, fun hc => by simp [exec, execWait, s.setWait_main _ hc, ms],
    fun hc => by simp [exec, execWait, s.setWait_isr _ hc, ms]⟩

/-- Settles O6: the target goes into the live context's record. -/
theorem jmpWritesPc : Obligations.JmpWritesPc := fun tgt s =>
  ⟨rfl, rfl, fun hc => by simp [exec, execJmp, s.setPc_main _ hc],
    fun hc => by simp [exec, execJmp, s.setPc_isr _ hc]⟩

/-! ### One pass: the loop body by what comes next (R121, R122) -/

/-- A context that is not the halted main context does not idle. -/
theorem idles_eq_false {s : State} (hh : s.ctx = .main → s.halted = false) : s.idles = false := by
  rw [← Bool.not_eq_true, idles_iff]
  rintro ⟨hc, ht⟩
  simp [hh hc] at ht

/-- The operation or primitive that comes next would exceed MAX_ZT. -/
theorem loopBody_zeroTimeLoop {s : State} (hw : s.cur.wait = 0)
    (hh : s.ctx = .main → s.halted = false) (hz : s.par.cfg.maxZt < s.pos.z + 1) :
    loopBody s = .next (s.raise .zeroTimeLoop) := by
  simp [loopBody, hw, idles_eq_false hh, hz]

/-- With room under MAX_ZT the next operation or primitive is counted and runs. -/
theorem loopBody_runOne {s : State} (hw : s.cur.wait = 0) (hh : s.ctx = .main → s.halted = false)
    (hz : s.pos.z + 1 ≤ s.par.cfg.maxZt) : loopBody s = runOne s.countOperation := by
  simp [loopBody, hw, idles_eq_false hh, Nat.not_lt.mpr hz]

theorem runOne_nil {s : State} (hq : s.cur.q = []) : runOne s = fetchExec s := by
  simp [runOne, hq]

theorem runOne_cons {s : State} {p : Prim} {ps : List Prim} (hq : s.cur.q = p :: ps) :
    runOne s = .next (execPrim p (s.setQ ps)) := by
  simp [runOne, hq]

/-- The main context's PLVL from the head of its queue, counted (R125). -/
theorem execPrim_plvl_main {s : State} (hc : s.ctx = .main) (v : Level) (q : List Prim) :
    execPrim (.plvl v) (s.countOperation.setQ q) =
      { s with
        m := { s.m with q := q }
        data := driveOfLevel v
        pos := { s.pos with z := s.pos.z + 1 } } := by
  rw [s.countOperation.setQ_main q hc]
  rfl

/-- The main context's PWAIT from the head of its queue, counted (R125). -/
theorem execPrim_pwait_main {s : State} (hc : s.ctx = .main) (n : Ms) (q : List Prim) :
    execPrim (.pwait n) (s.countOperation.setQ q) =
      { s with
        m := { s.m with q := q, wait := ms s.par.cfg n }
        pos := { s.pos with z := s.pos.z + 1 } } := by
  rw [execPrim_pwait, State.setWait_main _ _ (by simpa using hc), s.countOperation.setQ_main q hc]
  rfl

/-- A fetch of a word that decodes runs its operation with the pc advanced (R122). -/
theorem fetchExec_decoded {s : State} {w : Word} {op : Instr} (hw : s.program[s.cur.pc]? = some w)
    (hd : decode w = .op op) : fetchExec s = exec op (s.setPc (s.cur.pc + 1)) := by
  simp [fetchExec, hw, hd]

/-- A fetch at or past the end (R122). -/
theorem fetchExec_past_end {s : State} (h : s.program.length ≤ s.cur.pc) :
    fetchExec s = .next (s.raise .pcOutOfRange) := by
  simp [fetchExec, List.getElem?_eq_none_iff.mpr h]

/-- The state after a delivery check that delivers nothing: an opportunity is counted (R265). -/
def State.checked (s : State) : State :=
  { s with pos := { s.pos with b := if s.opportunity = true then s.pos.b + 1 else s.pos.b } }

theorem State.checked_of_opportunity {s : State} (h : s.opportunity = true) :
    s.checked = s.countOpportunity := by simp [State.checked, h, State.countOpportunity]

theorem State.checked_of_no_opportunity {s : State} (h : s.opportunity = false) :
    s.checked = s := by
  simp [State.checked, h]

/-- A step inside a tick that neither delivers, nor spends the tick, nor idles. -/
theorem step_checked {s : State} (hf : s.fault = none) (hr : s.par.refusal = none)
    (hp : s.pos.phase = .run) (ho : s.opportunity = false ∨ s.draw = false) (hw : s.cur.wait = 0)
    (hh : s.ctx = .main → s.halted = false) : step s = loopBody s.checked :=
  (step_run hf hr hp).trans (loopStep_no_delivery ho hw hh)

/-- Settles O30: with nothing queued the pass is the fetch. -/
theorem stepRunsDecodedOperation : Obligations.StepRunsDecodedOperation := by
  intro s w op hf hr hp hw hq hh hz hget hd
  have hstep : s.opportunity = false ∨ s.draw = false →
      step s = exec op (s.checked.countOperation.setPc (s.cur.pc + 1)) := fun ho => by
    rw [step_checked hf hr hp ho hw hh, loopBody_runOne (s := s.checked) hw hh hz]
    exact (runOne_nil (s := s.checked.countOperation) hq).trans
      (fetchExec_decoded (s := s.checked.countOperation) hget hd)
  refine ⟨fun ho => ?_, fun ho hdraw => ?_⟩
  · rw [hstep (.inl ho), State.checked_of_no_opportunity ho]
  · rw [hstep (.inr hdraw), State.checked_of_opportunity ho]

/-- Settles O31: the head of the main queue is what the pass runs. -/
theorem stepRunsPrimitive : Obligations.StepRunsPrimitive := by
  intro s v n ps hf hr hp ho hc hh hw hz
  have hstep {p : Prim} (hq : s.m.q = p :: ps) :
      step s = .next (execPrim p (s.checked.countOperation.setQ ps)) := by
    have hcur := s.cur_main hc
    rw [step_checked hf hr hp ho (by rw [hcur, hw]) fun _ => hh,
      loopBody_runOne (s := s.checked) (by rwa [← hcur] at hw) (fun _ => hh) hz]
    exact runOne_cons (s := s.checked.countOperation) (by rwa [← hcur] at hq)
  refine ⟨fun hq => ?_, fun hq => ?_⟩
  · rw [hstep hq, execPrim_plvl_main (s := s.checked) hc]
    cases v <;> rfl
  · rw [hstep hq, execPrim_pwait_main (s := s.checked) hc]
    rfl

/-- Settles O33: with nothing deliverable the pass is the loop body, which idles. -/
theorem stepIdlesInHalt : Obligations.StepIdlesInHalt := by
  intro s hf hr hp hc hh hw hn
  have ho : s.opportunity = false := (opportunity_eq_false_iff s).mpr fun _ => hn
  have hb : loopBody s = .next s.endTick :=
    loopBody_idle (by rwa [s.cur_main hc]) ((idles_iff s).mpr ⟨hc, hh⟩)
  simp [step_run hf hr hp, loopStep, ho, hb, State.endTick]

/-- Settles O37: the fetch is counted before it finds no word. -/
theorem pcOutOfRangeIsRecorded : Obligations.PcOutOfRangeIsRecorded := by
  intro s hf hr hp ho hw hq hh hz hlen
  rw [step_checked hf hr hp ho hw hh, loopBody_runOne (s := s.checked) hw hh hz]
  exact (runOne_nil (s := s.checked.countOperation) hq).trans
    (fetchExec_past_end (s := s.checked.countOperation) hlen)

/-- Settles O38: the bound is checked before anything runs or is counted. -/
theorem zeroTimeLoopIsRecorded : Obligations.ZeroTimeLoopIsRecorded := by
  intro s hf hr hp ho hw hh hz
  rw [step_checked hf hr hp ho hw hh]
  exact loopBody_zeroTimeLoop (s := s.checked) hw hh hz

/-- A step at the start of a tick is phase 1 (R121). -/
theorem step_sample {s : State} (hf : s.fault = none) (hr : s.par.refusal = none)
    (hp : s.pos.phase = .sample) : step s = .next s.sampleDoor := by
  simp [step, blockStep, hf, hr, hp]

/-! ### A tick as a run of steps, and its end (R120, R121) -/

theorem leftLoop_iff {s : State} : s.leftLoop = true ↔ s.pos.phase = .sample ∨ s.fault ≠ none := by
  cases hp : s.pos.phase <;> simp [State.leftLoop, hp, Option.isSome_iff_ne_none]

theorem leftLoop_eq_false_iff {s : State} :
    s.leftLoop = false ↔ s.pos.phase = .run ∧ s.fault = none := by
  cases hp : s.pos.phase <;> simp [State.leftLoop, hp]

theorem run_succ {s t : State} (h : step s = .next t) (n : Nat) :
    Host.Core.run Sys2Proof.core (n + 1) s = Host.Core.run Sys2Proof.core n t := by
  have h : Sys2Proof.core.step s = .next t := h
  simp [Host.Core.run, h]

theorem run_refused {s : State} {r : Refusal} (h : step s = .refused r) :
    Host.Core.run Sys2Proof.core 1 s = .refused r := by
  have h : Sys2Proof.core.step s = .refused r := h
  simp only [Host.Core.run, h]

theorem loopBody_par {s t : State} (hr : s.par.refusal = none) (h : loopBody s = .next t) :
    t.par = s.par := by
  obtain hk | ⟨_, _, _, -, -, -, hk, he⟩ := loopBody_writes hr h
  · exact hk.par
  · exact (exec_par he).trans hk.par

@[simp] theorem deliveryCheck_par (s : State) : (deliveryCheck s).par = s.par := by
  unfold deliveryCheck
  split_ifs <;> rfl

@[simp] theorem deliveryCheck_fault (s : State) : (deliveryCheck s).fault = s.fault := by
  unfold deliveryCheck
  split_ifs <;> rfl

/-- The delivery check moves the count of opportunities alone (R265). -/
theorem deliveryCheck_pos (s : State) : ∃ b, (deliveryCheck s).pos = { s.pos with b := b } := by
  unfold deliveryCheck
  split_ifs <;> exact ⟨_, rfl⟩

/-- A pass that delivers is two steps, the delivery and the first operation of the interrupt
context; every other pass is one (log 1). -/
theorem run_tickPass {s t : State} (hf : s.fault = none) (hr : s.par.refusal = none)
    (hp : s.pos.phase = .run) (h : tickPass s = .next t) :
    ∃ k, ∀ n, Host.Core.run Sys2Proof.core (n + k) s = Host.Core.run Sys2Proof.core n t := by
  have hs := step_run hf hr hp
  cases ho : s.opportunity with
  | false =>
    have hb : loopBody s = .next t := by simpa [tickPass, deliveryCheck, ho] using h
    exact ⟨1, run_succ (by simpa [loopStep, ho, hb] using hs)⟩
  | true =>
    cases hd : s.delivers with
    | false =>
      have hb : loopBody s.countOpportunity = .next t := by
        simpa [tickPass, deliveryCheck, ho, hd] using h
      exact ⟨1, run_succ (by simpa [loopStep, ho, hd, hb] using hs)⟩
    | true =>
      have hb : loopBody s.countOpportunity.deliver = .next t := by
        simpa [tickPass, deliveryCheck, ho, hd] using h
      have h₁ : step s = .next s.countOpportunity.deliver := by simpa [loopStep, ho, hd] using hs
      have h₂ : step s.countOpportunity.deliver = .next t := by
        rw [step_run (s := s.countOpportunity.deliver) hf hr hp, ← hb]
        rfl
      exact ⟨2, fun n => (run_succ h₁ (n + 1)).trans (run_succ h₂ n)⟩

/-- A whole pass of an admitted run answers, and leaves the parameters alone. -/
theorem tickPass_answers {s : State} (hr : s.par.refusal = none) :
    ∃ t, tickPass s = .next t ∧ t.par = s.par := by
  have hr' : (deliveryCheck s).par.refusal = none := by rwa [deliveryCheck_par]
  obtain ⟨t, ht⟩ := loopBody_answers hr'
  exact ⟨t, ht, (loopBody_par hr' ht).trans (deliveryCheck_par s)⟩

/-- The loop, from inside a tick, is a run of steps. -/
theorem run_tickLoop (n : Nat) {s : State} (hf : s.fault = none) (hr : s.par.refusal = none)
    (hp : s.pos.phase = .run) : ∃ k, Host.Core.run Sys2Proof.core k s = tickLoop n s := by
  induction n generalizing s with
  | zero => exact ⟨0, rfl⟩
  | succ n ih =>
    obtain ⟨t, ht, hpar⟩ := tickPass_answers hr
    obtain ⟨j, hj⟩ := run_tickPass hf hr hp ht
    cases hl : t.leftLoop with
    | true => exact ⟨0 + j, (hj 0).trans (tickLoop_left ht hl).symm⟩
    | false =>
      obtain ⟨htp, htf⟩ := leftLoop_eq_false_iff.mp hl
      obtain ⟨k, hk⟩ := ih htf (hpar ▸ hr) htp
      exact ⟨k + j, (hj k).trans (hk.trans (tickLoop_next ht hl).symm)⟩

/-- Settles O50: phase 1 is one step, and the loop is a run of them. -/
theorem tickIsARunOfSteps : Obligations.TickIsARunOfSteps := by
  intro s hf hp
  cases hr : s.par.refusal with
  | some r =>
    have hs : step s = .refused r := by simp [step, blockStep, hf, hr]
    have ht : tick s = .refused r := by simp [tick, hf, hr]
    exact ⟨1, Nat.one_pos, (run_refused hs).trans ht.symm⟩
  | none =>
    have hs := step_sample hf hr hp
    obtain ⟨k, hk⟩ := run_tickLoop (s.par.cfg.maxZt + 1) (s := s.sampleDoor) hf hr rfl
    exact ⟨k + 1, k.succ_pos, (run_succ hs k).trans (hk.trans (tick_admitted hf hr).symm)⟩

/-- The tick numbered `t₀` has ended at `t`: it is consumed, or a fault is recorded in it. -/
def State.EndsTick (t : State) (t₀ : Nat) : Prop :=
  (t.fault = none ∧ t.pos.phase = .sample ∧ t.pos.t = t₀ + 1) ∨ (t.fault ≠ none ∧ t.pos.t = t₀)

theorem State.EndsTick.leftLoop {t : State} {t₀ : Nat} (h : t.EndsTick t₀) : t.leftLoop = true :=
  leftLoop_iff.mpr (h.imp (·.2.1) (·.1))

/-- The loop body ends the tick, or it counts an operation that MAX_ZT has room for. -/
theorem loopBody_ends_or_counts {s t : State} (hf : s.fault = none) (hr : s.par.refusal = none)
    (h : loopBody s = .next t) :
    t.EndsTick s.pos.t ∨
      t.fault = none ∧ s.pos.z + 1 ≤ s.par.cfg.maxZt ∧ t.pos = { s.pos with z := s.pos.z + 1 } := by
  obtain ⟨-, hb⟩ | ⟨-, -, hb⟩ | ⟨-, -, -, hb⟩ | ⟨-, -, hz, p, ps, -, hb⟩ | ⟨-, -, hz, -, hb⟩ :=
    loopBody_cases s
  · obtain rfl := Host.Outcome.next.inj (hb.symm.trans h)
    exact .inl (.inl (by simp [State.spendTick, hf]))
  · obtain rfl := Host.Outcome.next.inj (hb.symm.trans h)
    exact .inl (.inl ⟨hf, rfl, rfl⟩)
  · obtain rfl := Host.Outcome.next.inj (hb.symm.trans h)
    exact .inl (.inr (by simp))
  · obtain rfl := Host.Outcome.next.inj (hb.symm.trans h)
    exact .inr ⟨by cases p <;> simp [hf], hz, by simp⟩
  · obtain ⟨-, hx⟩ | ⟨_, _, u, -, -, -, -, he, hx⟩ := fetchExec_cases (s := s.countOperation) hr
    · obtain rfl := Host.Outcome.next.inj (hx.symm.trans (hb.symm.trans h))
      exact .inl (.inr (by simp))
    · obtain rfl := Host.Outcome.next.inj (hx.symm.trans (hb.symm.trans h))
      exact .inr ⟨by simpa [hf] using exec_fault he, hz, by simpa using exec_pos he⟩

/-- The loop ends the tick where its passes outnumber the operations MAX_ZT still has room for. -/
theorem tickLoop_ends (n : Nat) {s : State} (hf : s.fault = none) (hr : s.par.refusal = none)
    (hp : s.pos.phase = .run) (hz : s.pos.z ≤ s.par.cfg.maxZt)
    (hn : s.par.cfg.maxZt < s.pos.z + n) : ∃ t, tickLoop n s = .next t ∧ t.EndsTick s.pos.t := by
  induction n generalizing s with
  | zero => omega
  | succ n ih =>
    obtain ⟨t, ht, hpar⟩ := tickPass_answers hr
    obtain ⟨b, hb⟩ := deliveryCheck_pos s
    have hpass := loopBody_ends_or_counts (by simpa using hf) (by simpa using hr) ht
    simp only [hb, deliveryCheck_par] at hpass
    obtain hend | ⟨htf, hz', hpos⟩ := hpass
    · exact ⟨t, tickLoop_left ht hend.leftLoop, hend⟩
    · have htp : t.pos.phase = .run := by rw [hpos, hp]
      rw [tickLoop_next ht (leftLoop_eq_false_iff.mpr ⟨htp, htf⟩)]
      have hn' : t.par.cfg.maxZt < t.pos.z + n := by
        simp only [hpos, hpar]
        omega
      simpa only [hpos] using ih htf (hpar ▸ hr) htp (by rwa [hpos, hpar]) hn'

/-- Settles O51: a tick starts with no operation counted and has MAX_ZT + 1 passes. -/
theorem everyTickEnds : Obligations.EveryTickEnds := by
  intro s hf hr _
  rw [tick_admitted hf hr]
  exact tickLoop_ends _ (s := s.sampleDoor) hf hr rfl (Nat.zero_le _) (by simp)

end Sys2Proof.Machine

/-! PROOF. The waveform of a SEND: the levels that the primitives ahead put on the data line, tick
by tick (R125, R152). -/

namespace Sys2Proof.Machine

/-! ### The levels ahead -/

/-- The data line's drive states that a list of primitives gives, tick by tick, from the state `d`
on (R125, R127). -/
def queueWave (c : Config) : DataDrive → List Prim → List DataDrive
  | _, [] => []
  | _, .plvl v :: q => queueWave c (driveOfLevel v) q
  | d, .pwait n :: q => List.replicate (ms c n) d ++ queueWave c d q

/-- The same of the main context: the rest of its wait, and then the primitives `q`. -/
def State.waveAhead (s : State) (q : List Prim) : List DataDrive :=
  List.replicate s.m.wait s.data ++ queueWave s.par.cfg s.data q

theorem State.waveAhead_of_no_wait {s : State} (hw : s.m.wait = 0) (q : List Prim) :
    s.waveAhead q = queueWave s.par.cfg s.data q := by
  simp [State.waveAhead, hw]

/-- Where every queued wait lasts, nothing is ahead only when nothing is queued and no wait is
left. -/
theorem State.waveAhead_eq_nil {s : State} {q : List Prim} (ht : 0 < s.par.cfg.tpm)
    (hq : queueWaits q = true) (h : s.waveAhead q = []) : s.m.wait = 0 ∧ q = [] := by
  obtain ⟨hw, hwave⟩ := List.append_eq_nil_iff.mp h
  refine ⟨by simpa using hw, ?_⟩
  match q with
  | [] => rfl
  | .pwait n :: _ | .plvl _ :: .pwait n :: _ =>
    have hn : n ≠ 0 := by
      simp only [queueWaits, Bool.and_eq_true, decide_eq_true_eq] at hq
      tauto
    have hms : ms s.par.cfg n = 0 := by simpa using (List.append_eq_nil_iff.mp hwave).1
    exact absurd hms (ms_pos ht hn).ne'
  | [.plvl _] | .plvl _ :: .plvl _ :: _ => simp [queueWaits] at hq

theorem map_range_eq_replicate {α : Type} {f : ℕ → α} {n : ℕ} {a : α} (h : ∀ x < n, f x = a) :
    (List.range n).map f = List.replicate n a := by
  refine List.eq_replicate_iff.mpr ⟨by simp, fun y hy => ?_⟩
  obtain ⟨x, hx, rfl⟩ := List.mem_map.mp hy
  exact h x (List.mem_range.mp hx)

/-- Blocks of equal length, one for each index. -/
theorem flatMap_replicate_range {α : Type} (f : ℕ → α) {k : ℕ} (hk : 0 < k) (n : ℕ) :
    (List.range n).flatMap (fun j => List.replicate k (f j)) =
      (List.range (n * k)).map fun x => f (x / k) := by
  induction n with
  | zero => simp
  | succ n ih =>
    have hblock : (List.range k).map (fun x => f ((n * k + x) / k)) = List.replicate k (f n) :=
      map_range_eq_replicate fun x hx => by
        rw [Nat.mul_comm, Nat.mul_add_div hk, Nat.div_eq_of_lt hx, Nat.add_zero]
    rw [Nat.succ_mul, List.range_add (n := n * k), List.range_succ, List.map_append, ← ih,
      List.map_map]
    simp [Function.comp_def, hblock]

theorem driveOfLevel_levelOfDataBit (x : Bool) :
    driveOfLevel (levelOfDataBit x) = if x = true then .driveLow else .driveHigh := by
  cases x <;> rfl

/-- The expansion of SEND gives the levels of R152, from any state of the data line. -/
theorem queueWave_expandSend {c : Config} (ht : 0 < c.tpm) (d : DataDrive) (b : Byte) :
    queueWave c d (expandSend b) = (List.range (44 * c.tpm)).map (sendLevel c b) := by
  have hslots : queueWave c d (expandSend b) =
      List.replicate (4 * c.tpm) .driveHigh ++
        (List.range 8).flatMap (fun j => List.replicate (4 * c.tpm)
          (driveOfLevel (levelOfDataBit (b.getLsbD j)))) ++
        List.replicate (8 * c.tpm) .driveLow := by
    simp [expandSend, slot, nData, List.range_succ, queueWave, ms, tBit, tEnd, driveOfLevel]
  have hsum : 44 * c.tpm = 4 * c.tpm + 8 * (4 * c.tpm) + 8 * c.tpm := by ring
  rw [hslots, flatMap_replicate_range _ (by omega), hsum, List.range_add, List.range_add,
    List.map_append, List.map_append, List.map_map, List.map_map]
  congr 1
  · congr 1
    · exact (map_range_eq_replicate fun x hx => by simp [sendLevel, hx]).symm
    · refine List.map_congr_left fun x hx => ?_
      have hx' : 4 * c.tpm + x < 36 * c.tpm := by
        have := List.mem_range.mp hx
        omega
      simp [sendLevel, driveOfLevel_levelOfDataBit, hx']
  · refine (map_range_eq_replicate fun x _ => ?_).symm
    have hx₁ : ¬ 4 * c.tpm + 8 * (4 * c.tpm) + x < 4 * c.tpm := by omega
    have hx₂ : ¬ 4 * c.tpm + 8 * (4 * c.tpm) + x < 36 * c.tpm := by omega
    simp [sendLevel, hx₁, hx₂]

/-! ### Sending, tick by tick -/

/-- The main context of an admitted, unfaulted run is awake and live, with the primitives `q` at the
head of its queue, each level of them held. -/
structure State.Sending (s : State) (q rest : List Prim) : Prop where
  fault : s.fault = none
  refusal : s.par.refusal = none
  ctx : s.ctx = .main
  halted : s.halted = false
  queue : s.m.q = q ++ rest
  waits : queueWaits q = true

/-- The next tick's start, after a tick of the main context that wrote its record and the data
line. -/
def State.afterTick (s : State) (d : DataDrive) (m : CtxState) (z : Nat) : State :=
  { s with data := d, m := m, pos := { s.pos with t := s.pos.t + 1, phase := .sample, z := z } }

/-- The tick of `s` has ended at `t` with the data line at `d` and the levels `w` ahead, before
`rest`. -/
structure TickSent (s t : State) (rest : List Prim) (d : DataDrive) (w : List DataDrive) :
    Prop where
  tick : ∃ m z, m.pc = s.m.pc ∧ t = s.afterTick d m z
  ahead : ∃ q, t.Sending q rest ∧ t.waveAhead q = w

/-- With no opportunity a pass is the loop body. -/
theorem tickPass_of_no_opportunity {s : State} (ho : s.opportunity = false) :
    tickPass s = loopBody s := by simp [tickPass, deliveryCheck, ho]

namespace State.Sending

variable {s : State} {q rest : List Prim} {d : DataDrive} {w : List DataDrive}

theorem tpm_pos (h : s.Sending q rest) : 0 < s.par.cfg.tpm :=
  (configInRange_iff.mp (refusal_none_config h.refusal)).2.1

/-- A waiting context consumes the tick with the data line as it is. -/
theorem tickLoop_wait (h : s.Sending q rest) (ho : s.opportunity = false) (hw : 0 < s.m.wait)
    (hwave : s.waveAhead q = d :: w) :
    ∃ t, (∀ n, tickLoop (n + 1) s = .next t) ∧ TickSent s t rest d w := by
  have hpass : tickPass s = .next s.spendTick := by
    rw [tickPass_of_no_opportunity ho, loopBody_wait (by rwa [s.cur_main h.ctx])]
  refine ⟨s.spendTick, fun n => tickLoop_left hpass rfl, ?_⟩
  obtain ⟨k, hk⟩ := Nat.exists_eq_add_of_le' hw
  rw [State.waveAhead, hk, List.replicate_succ, List.cons_append, List.cons.injEq] at hwave
  obtain ⟨rfl, rfl⟩ := hwave
  rw [s.spendTick_main h.ctx, hk]
  exact ⟨⟨{ s.m with wait := k }, s.pos.z, rfl, rfl⟩, q,
    ⟨h.fault, h.refusal, h.ctx, h.halted, h.queue, h.waits⟩, rfl⟩

/-- The queue's head, counted and run, leaves the rest of the queue to send. -/
protected theorem execPrim {p : Prim} (h : s.Sending (p :: q) rest) :
    (execPrim p (s.countOperation.setQ (q ++ rest))).Sending q rest where
  fault := by cases p <;> simp [h.fault]
  refusal := by simp [h.refusal]
  ctx := by cases p <;> simp [h.ctx]
  halted := by cases p <;> simp [h.halted]
  queue := by cases p <;> simp [execPrim_plvl_main h.ctx, execPrim_pwait_main h.ctx]
  waits := by
    have := h.waits
    cases p <;> simp_all [queueWaits]

/-- No primitive changes the levels ahead. -/
theorem waveAhead_execPrim {p : Prim} (h : s.Sending (p :: q) rest) (hw : s.m.wait = 0) :
    (execPrim p (s.countOperation.setQ (q ++ rest))).waveAhead q = s.waveAhead (p :: q) := by
  cases p with
  | plvl v => simp [execPrim_plvl_main h.ctx, State.waveAhead, hw, queueWave]
  | pwait n => simp [execPrim_pwait_main h.ctx, State.waveAhead, hw, queueWave]

/-- A pass that runs the queue's head is followed by the rest of the tick. -/
theorem tickLoop_execPrim {p : Prim} {k : ℕ} (h : s.Sending (p :: q) rest)
    (hp : s.pos.phase = .run) (ho : s.opportunity = false) (hw : s.m.wait = 0)
    (hz : s.pos.z + 1 ≤ s.par.cfg.maxZt)
    (hnext : ∃ t, (∀ n, tickLoop (n + k) (execPrim p (s.countOperation.setQ (q ++ rest))) =
      .next t) ∧ TickSent (execPrim p (s.countOperation.setQ (q ++ rest))) t rest d w) :
    ∃ t, (∀ n, tickLoop (n + (k + 1)) s = .next t) ∧ TickSent s t rest d w := by
  have hcur := s.cur_main h.ctx
  have hpass : tickPass s = .next (execPrim p (s.countOperation.setQ (q ++ rest))) := by
    rw [tickPass_of_no_opportunity ho, loopBody_runOne (by rwa [hcur]) (fun _ => h.halted) hz]
    exact runOne_cons (s := s.countOperation) (hcur ▸ h.queue)
  have hleft := leftLoop_eq_false_iff.mpr ⟨by simpa using hp, h.execPrim.fault⟩
  obtain ⟨t, ht, ⟨m, z, hm, rfl⟩, ha⟩ := hnext
  refine ⟨_, fun n => (tickLoop_next hpass hleft).trans (ht n), ⟨m, z, ?_, ?_⟩, ha⟩
  · cases p <;> simpa [execPrim_plvl_main h.ctx, execPrim_pwait_main h.ctx] using hm
  · cases p <;> simp [execPrim_plvl_main h.ctx, execPrim_pwait_main h.ctx, State.afterTick]

/-- PWAIT, and then the first tick of its wait. -/
theorem tickLoop_pwait {n : Ms} (h : s.Sending (.pwait n :: q) rest) (hp : s.pos.phase = .run)
    (ho : s.opportunity = false) (hw : s.m.wait = 0) (hz : s.pos.z + 1 ≤ s.par.cfg.maxZt)
    (hwave : s.waveAhead (.pwait n :: q) = d :: w) :
    ∃ t, (∀ k, tickLoop (k + 2) s = .next t) ∧ TickSent s t rest d w := by
  have hn : n ≠ 0 := by
    have := h.waits
    simp only [queueWaits, Bool.and_eq_true, decide_eq_true_eq] at this
    exact this.1
  refine h.tickLoop_execPrim hp ho hw hz (h.execPrim.tickLoop_wait ?_ ?_ ?_)
  · simpa [State.opportunity] using ho
  · simpa [execPrim_pwait_main h.ctx] using ms_pos h.tpm_pos hn
  · rwa [h.waveAhead_execPrim hw]

/-- A tick of the main context that sends: it goes on waiting, or it runs one or two primitives and
begins to wait. -/
protected theorem tickLoop (h : s.Sending q rest) (hp : s.pos.phase = .run)
    (ho : s.opportunity = false) (hz : s.pos.z + 2 ≤ s.par.cfg.maxZt)
    (hwave : s.waveAhead q = d :: w) :
    ∃ t, (∀ n, tickLoop (n + 3) s = .next t) ∧ TickSent s t rest d w := by
  obtain hw | hw := Nat.eq_zero_or_pos s.m.wait
  · match q with
    | [] => simp [State.waveAhead, hw, queueWave] at hwave
    | .pwait n :: q =>
      obtain ⟨t, ht, hs⟩ := h.tickLoop_pwait hp ho hw (by omega) hwave
      exact ⟨t, fun n => ht (n + 1), hs⟩
    | .plvl v :: .pwait n :: q =>
      refine h.tickLoop_execPrim hp ho hw (by omega) (h.execPrim.tickLoop_pwait ?_ ?_ ?_ ?_ ?_)
      · simpa using hp
      · simpa [State.opportunity] using ho
      · simpa [execPrim_plvl_main h.ctx] using hw
      · simpa using Nat.add_one_le_iff.mp hz
      · rwa [h.waveAhead_execPrim hw]
    | [.plvl _] | .plvl _ :: .plvl _ :: _ => simpa [queueWaits] using h.waits
  · obtain ⟨t, ht, hs⟩ := h.tickLoop_wait ho hw hwave
    exact ⟨t, fun n => ht (n + 2), hs⟩

end State.Sending

theorem TickSent.noDelivery {s t : State} {rest : List Prim} {d : DataDrive} {w : List DataDrive}
    {k : ℕ} (h : TickSent s.sampleDoor t rest d w) (hn : s.NoDelivery (k + 1)) :
    t.NoDelivery k := by
  obtain ⟨⟨m, z, -, rfl⟩, -⟩ := h
  exact hn.tail rfl rfl rfl rfl rfl

/-- Inside a tick after which no delivery is possible there is no opportunity (R265). -/
theorem opportunity_of_endTick_noDelivery {s : State} {k : ℕ} (h : s.endTick.NoDelivery k) :
    s.opportunity = false :=
  (opportunity_eq_false_iff s).mpr fun _ => h.elim .inr fun h => .inl h.1

/-- Phase 1 of a tick leaves no delivery possible in the ticks after it (R190). -/
theorem State.NoDelivery.after_sampleDoor {s : State} {k : ℕ} (h : s.NoDelivery (k + 1)) :
    s.sampleDoor.endTick.NoDelivery k :=
  h.tail rfl rfl rfl rfl rfl

/-- `t` starts the `k`-th tick after `s`, the gate line, ArmState and the main context's pc as at
`s`. -/
structure SentFor (k : ℕ) (s t : State) : Prop where
  phase : t.pos.phase = .sample
  time : t.pos.t = s.pos.t + k
  pc : t.m.pc = s.m.pc
  gate : t.gate = s.gate
  arm : t.arm = s.arm

theorem SentFor.trans {j k : ℕ} {s t u : State} (h : SentFor j s t) (h' : SentFor k t u) :
    SentFor (j + k) s u :=
  ⟨h'.phase, by rw [h'.time, h.time, Nat.add_assoc], h'.pc.trans h.pc, h'.gate.trans h.gate,
    h'.arm.trans h.arm⟩

theorem TickSent.sentFor {s t : State} {rest : List Prim} {d : DataDrive} {w : List DataDrive}
    (h : TickSent s t rest d w) : SentFor 1 s t := by
  obtain ⟨⟨m, z, hm, rfl⟩, -⟩ := h
  exact ⟨rfl, rfl, hm, rfl, rfl⟩

theorem TickSent.data {s t : State} {rest : List Prim} {d : DataDrive} {w : List DataDrive}
    (h : TickSent s t rest d w) : t.data = d := by
  obtain ⟨⟨m, z, -, rfl⟩, -⟩ := h
  rfl

namespace State.Sending

variable {s : State} {q rest : List Prim} {d : DataDrive} {w : List DataDrive}

/-- A whole tick of the main context that sends. -/
protected theorem tick (h : s.Sending q rest) (hn : s.NoDelivery (w.length + 1))
    (hwave : s.waveAhead q = d :: w) :
    ∃ t, tick s = .next t ∧ TickSent s.sampleDoor t rest d w := by
  have hmax := (configInRange_iff.mp (refusal_none_config h.refusal)).2.2
  have hs : s.sampleDoor.Sending q rest := { h with }
  obtain ⟨t, ht, hsent⟩ := hs.tickLoop rfl hn.opportunity
    (show 0 + 2 ≤ s.par.cfg.maxZt by omega) hwave
  refine ⟨t, ?_, hsent⟩
  rw [tick_admitted h.fault h.refusal, ← ht (s.par.cfg.maxZt - 2)]
  congr 1
  omega

/-- With no delivery possible, the levels ahead come out tick by tick (R127, R152). -/
protected theorem ticks (k : ℕ) (h : s.Sending q rest) (hn : s.NoDelivery w.length)
    (hp : s.pos.phase = .sample) (hwave : s.waveAhead q = w) (hk : k ≤ w.length) :
    ∃ t, ticks k s = .next t ∧ SentFor k s t ∧ (s.data :: w)[k]? = some t.data ∧
      ∃ q', t.Sending q' rest ∧ t.waveAhead q' = w.drop k := by
  induction k generalizing s q w with
  | zero => exact ⟨s, rfl, ⟨hp, rfl, rfl, rfl, rfl⟩, rfl, q, h, hwave⟩
  | succ k ih =>
    match w with
    | d :: w =>
      obtain ⟨u, hu, hsent⟩ := h.tick hn hwave
      obtain ⟨q', hq', hw'⟩ := hsent.ahead
      have hfor := hsent.sentFor
      obtain ⟨t, ht, htfor, hdata, hahead⟩ :=
        ih hq' (hsent.noDelivery hn) hfor.phase hw' (Nat.le_of_succ_le_succ hk)
      refine ⟨t, (ticks_succ hu k).trans ht, ?_, ?_, hahead⟩
      · rw [Nat.add_comm k]
        exact SentFor.trans { hfor with } htfor
      · rwa [hsent.data] at hdata

/-- With nothing ahead, the main context goes on behind what it has sent. -/
theorem m_of_waveAhead_nil (h : s.Sending q rest) (hwave : s.waveAhead q = []) :
    s.m = { pc := s.m.pc, q := rest, wait := 0 } := by
  obtain ⟨hw, rfl⟩ := State.waveAhead_eq_nil h.tpm_pos h.waits hwave
  rw [← hw, ← List.nil_append rest, ← h.queue]

theorem waveAhead_expandSend {b : Byte} (h : s.Sending (expandSend b) rest) (hw : s.m.wait = 0) :
    s.waveAhead (expandSend b) = (List.range (44 * s.par.cfg.tpm)).map (sendLevel s.par.cfg b) := by
  rw [State.waveAhead_of_no_wait hw, queueWave_expandSend h.tpm_pos]

/-- From inside its first tick, a SEND whose primitives head the queue gives R152's waveform. -/
theorem sendsByte {b : Byte} (h : s.Sending (expandSend b) rest) (hp : s.pos.phase = .run)
    (hw : s.m.wait = 0) (hz : s.pos.z + 2 ≤ s.par.cfg.maxZt)
    (hn : s.endTick.NoDelivery (44 * s.par.cfg.tpm - 1)) :
    s.SendsByte b { s.m with q := rest } := by
  have hwave := h.waveAhead_expandSend hw
  cases hdw : s.waveAhead (expandSend b) with
  | nil =>
    have := h.tpm_pos
    rw [hdw, eq_comm, List.map_eq_nil_iff, List.range_eq_nil] at hwave
    omega
  | cons d w =>
    rw [hdw] at hwave
    have hlen : w.length = 44 * s.par.cfg.tpm - 1 := by
      simpa using congrArg (List.length ·.tail) hwave
    obtain ⟨e, he, hsent⟩ := h.tickLoop hp (opportunity_of_endTick_noDelivery hn) hz hdw
    obtain ⟨n, hrun⟩ := run_tickLoop 3 h.fault h.refusal hp
    obtain ⟨q, hq, hqw⟩ := hsent.ahead
    have hfor := hsent.sentFor
    have hne : e.NoDelivery w.length := by
      obtain ⟨⟨m, z, -, rfl⟩, -⟩ := hsent
      exact hlen ▸ hn
    refine ⟨n, e, hrun.trans (he 0), hfor.phase, hfor.time, fun x hx => ?_, ?_⟩
    · obtain ⟨t, ht, htfor, hdata, q', hq', -⟩ := hq.ticks x hne hfor.phase hqw (by omega)
      refine ⟨t, ht, hq'.fault, htfor.phase, ?_, ?_⟩
      · rw [htfor.time, hfor.time]
        omega
      · rw [hsent.data, hwave] at hdata
        simpa [hx, eq_comm] using hdata
    · obtain ⟨t, ht, htfor, -, q', hq', hw'⟩ := hq.ticks w.length hne hfor.phase hqw le_rfl
      rw [List.drop_length] at hw'
      have htot := hfor.trans htfor
      refine ⟨t, hlen ▸ ht, hq'.ctx, hq'.halted, ?_, htot.gate, htot.arm⟩
      rw [hq'.m_of_waveAhead_nil hw', htot.pc]
      simp [hw]

end State.Sending

/-! ### The first tick of a SEND -/

/-- What a step leaves of the tick's number, the parameters, the gate line and ArmState, it leaves
of the SEND that begins in the tick. -/
theorem State.SendsByte.of_step {s u : State} {b : Byte} {m : CtxState} (hs : step s = .next u)
    (ht : u.pos.t = s.pos.t) (hpar : u.par = s.par) (hg : u.gate = s.gate) (ha : u.arm = s.arm)
    (h : u.SendsByte b m) : s.SendsByte b m := by
  obtain ⟨n, e, hrun, hsend⟩ := h
  rw [ht, hpar, hg, ha] at hsend
  exact ⟨n + 1, e, (run_succ hs n).trans hrun, hsend⟩

/-- From inside a tick that fetches SEND: the fetch queues its primitives (R151). -/
theorem sendsByte_of_fetch {s : State} {b : Byte} {w : Word} (hf : s.fault = none)
    (hr : s.par.refusal = none) (hc : s.ctx = .main) (hh : s.halted = false) (hw : s.m.wait = 0)
    (hp : s.pos.phase = .run) (hn : s.endTick.NoDelivery (44 * s.par.cfg.tpm - 1))
    (hq : s.m.q = []) (hget : s.par.progM[s.m.pc]? = some w) (hd : decode w = .op (.send b))
    (hz : s.pos.z + 3 ≤ s.par.cfg.maxZt) : s.SendsByte b { s.m with pc := s.m.pc + 1 } := by
  have hcur := s.cur_main hc
  have hstep := (stepRunsDecodedOperation s w _ hf hr hp (by rwa [hcur]) (by rwa [hcur])
    (fun _ => hh) (by omega) (by rwa [hcur, State.program, hc]) hd).1
      (opportunity_of_endTick_noDelivery hn)
  have hsend : exec (.send b) (s.countOperation.setPc (s.cur.pc + 1)) = .next { s with
      m := { s.m with pc := s.m.pc + 1, q := expandSend b }
      pos := { s.pos with z := s.pos.z + 1 } } := by
    rw [hcur, exec, execSend, State.setQ_main _ _ (by simpa using hc),
      s.countOperation.setPc_main _ hc]
    rfl
  have hm : { s.m with pc := s.m.pc + 1 } = { s.m with pc := s.m.pc + 1, q := [] } := by rw [← hq]
  rw [hm]
  refine .of_step (hstep.trans hsend) rfl rfl rfl rfl ?_
  exact State.Sending.sendsByte ⟨hf, hr, hc, hh, (List.append_nil _).symm, queueWaits_expandSend b⟩
    hp hw hz hn

/-- Settles O54: phase 1 and the fetch come before the SEND's first primitive. -/
theorem sendWaveform : Obligations.SendWaveform := by
  intro s b hf hr hc hh hw
  refine ⟨fun hp hn => ?_, fun hp hn => ⟨fun w hq hget hd hz => ?_, fun rest hq hz => ?_⟩⟩
  · have hcfg := configInRange_iff.mp (refusal_none_config hr)
    have hstep := step_sample hf hr hp
    have hn' : s.sampleDoor.endTick.NoDelivery (44 * s.par.cfg.tpm - 1) :=
      State.NoDelivery.after_sampleDoor (by rwa [Nat.sub_add_cancel (by omega)])
    refine ⟨fun w hq hget hd => ?_, fun rest hq => ?_⟩
    · refine .of_step hstep rfl rfl rfl rfl ?_
      exact sendsByte_of_fetch (s := s.sampleDoor) hf hr hc hh hw rfl hn' hq hget hd
        (show 0 + 3 ≤ s.par.cfg.maxZt by omega)
    · refine .of_step hstep rfl rfl rfl rfl ?_
      exact State.Sending.sendsByte (s := s.sampleDoor)
        ⟨hf, hr, hc, hh, hq, queueWaits_expandSend b⟩ rfl hw
        (show 0 + 2 ≤ s.par.cfg.maxZt by omega) hn'
  · exact sendsByte_of_fetch hf hr hc hh hw hp hn hq hget hd hz
  · exact State.Sending.sendsByte ⟨hf, hr, hc, hh, hq, queueWaits_expandSend b⟩ hp hw hz hn

end Sys2Proof.Machine

/-! PROOF. The BitEncoder's operations: LVL and SEND (R150, R151). -/

namespace Sys2Proof.Machine

/-- What LVL does: it writes the data line's drive state and nothing else (R150). -/
theorem exec_lvl (v : Level) (s : State) :
    exec (.lvl v) s = .next { s with data := driveOfLevel v } := rfl

/-- Settles O7: the two words are the encodings of LVL, and LVL writes the data line alone. -/
theorem lvlDrivesData : Obligations.LvlDrivesData :=
  ⟨decodeOfEncode (.lvl .high) rfl, decodeOfEncode (.lvl .low) rfl, fun v s =>
    ⟨rfl, rfl, exec_lvl .high s, exec_lvl .low s, exec_lvl v s⟩⟩

/-- Settles O8: the expansion, each data bit in inverted polarity, goes into the live context's
queue. -/
theorem sendQueuesFrame : Obligations.SendQueuesFrame := by
  intro b s h q
  have hq : expandSend b = q := by
    simp only [q, h, ← levelOfDataBit_eq_ite]
    rfl
  exact ⟨rfl, rfl, fun hc => by simp [exec, execSend, s.setQ_main _ hc, hq],
    fun hc => by simp [exec, execSend, s.setQ_isr _ hc, hq]⟩

end Sys2Proof.Machine

/-! PROOF. The StringSequencer: the selector function, what CYCLE queues, how long it lasts and which
characters it sends (R170 to R173). -/

namespace Sys2Proof.Machine

/-! ### The selector function (R170) -/

@[simp] theorem sel_all_four (c : Config) : sel c .all 4 = c.codes.a := rfl

@[simp] theorem sel_all_three (c : Config) : sel c .all 3 = c.codes.e := rfl

@[simp] theorem sel_all_two (c : Config) : sel c .all 2 = c.codes.i := rfl

@[simp] theorem sel_all_one (c : Config) : sel c .all 1 = c.codes.w := rfl

@[simp] theorem sel_na (c : Config) (k : Nat) : sel c .na k = code c c.sels.na := by
  rw [sel, selectorChr]

@[simp] theorem sel_eur (c : Config) (k : Nat) : sel c .eur k = code c c.sels.eur := by
  rw [sel, selectorChr]

@[simp] theorem sel_jpn (c : Config) (k : Nat) : sel c .jpn k = code c c.sels.jpn := by
  rw [sel, selectorChr]

@[simp] theorem sel_debug (c : Config) (k : Nat) : sel c .debug k = code c c.sels.debug := by
  rw [sel, selectorChr]

/-- Settles O10: All's index picks the character, a single-selector profile ignores the index. -/
theorem selectorFunction : Obligations.SelectorFunction := fun c k _ =>
  ⟨sel_all_four c, sel_all_three c, sel_all_two c, sel_all_one c,
    sel_na c k, sel_eur c k, sel_jpn c k, sel_debug c k⟩

/-! ### What CYCLE queues (R171) -/

/-- The inner loop runs k = 4, 3, 2, 1. -/
theorem expandRepetition_eq_groups (c : Config) (p : Profile) :
    expandRepetition c p =
      expandGroup c p 4 ++ expandGroup c p 3 ++ expandGroup c p 2 ++ expandGroup c p 1 := by
  simp [expandRepetition, nInner, List.range_succ]

theorem expandCycle_succ (c : Config) (p : Profile) (r : Nat) :
    expandCycle c p (r + 1) = expandRepetition c p ++ expandCycle c p r := rfl

/-- Settles O9: the live context's queue is the nest of R171's two loops. -/
theorem cycleQueuesGroups : Obligations.CycleQueuesGroups := by
  intro p r s c g q
  have hq : expandCycle c p r.toNat = q := by
    rw [expandCycle, expandRepetition_eq_groups]
    rfl
  exact ⟨rfl, rfl, fun hc => by rw [exec, execCycle, s.setQ_main _ hc, hq],
    fun hc => by rw [exec, execCycle, s.setQ_isr _ hc, hq]⟩

/-! ### Durations and lengths (R127, R171, R172) -/

@[simp] theorem durationMs_append (q q' : List Prim) :
    durationMs (q ++ q') = durationMs q + durationMs q' := by
  induction q with
  | nil => simp [durationMs]
  | cons x q ih => cases x <;> simp [durationMs, ih, Nat.add_assoc]

@[simp] theorem durationMs_expandSend (b : Byte) : durationMs (expandSend b) = 44 := (frameSlots b).2

/-- Four characters of 44 ms and the trailer of 72 ms. -/
@[simp] theorem durationMs_expandGroup (c : Config) (p : Profile) (k : Nat) :
    durationMs (expandGroup c p k) = 248 := by
  simp [expandGroup, durationMs, tTrail]

/-- Four characters of 20 primitives and the trailer. -/
@[simp] theorem length_expandGroup (c : Config) (p : Profile) (k : Nat) :
    (expandGroup c p k).length = 81 := rfl

theorem durationMs_expandCycle (c : Config) (p : Profile) (r : Nat) :
    durationMs (expandCycle c p r) = 992 * r := by
  induction r with
  | zero => rfl
  | succ r ih =>
    simp only [expandCycle_succ, expandRepetition_eq_groups, durationMs_append,
      durationMs_expandGroup, ih]
    omega

theorem length_expandCycle (c : Config) (p : Profile) (r : Nat) :
    (expandCycle c p r).length = 324 * r := by
  simp [expandCycle, expandRepetition_eq_groups, Nat.mul_comm]

/-- Settles O23: each repetition is four groups of 81 primitives and 248 ms. -/
theorem cycleLengthAndDuration : Obligations.CycleLengthAndDuration := fun c p k r =>
  ⟨durationMs_expandGroup c p k, durationMs_expandCycle c p r, length_expandCycle c p r⟩

/-! ### The character stream (R173) -/

/-- The levels of a SEND are one whole character, whatever is queued behind it. -/
@[simp] theorem sentBytes_expandSend_append (b : Byte) (q : List Prim) :
    sentBytes (expandSend b ++ q) = b :: sentBytes q := by
  have hsplit : sentBytes (expandSend b ++ q) = frameByte (frame b) :: sentBytes q := rfl
  rw [hsplit, frameByte_frame]

@[simp] theorem sentBytes_pwait_cons (n : Ms) (q : List Prim) :
    sentBytes (.pwait n :: q) = sentBytes q := rfl

@[simp] theorem sentBytes_expandGroup_append (c : Config) (p : Profile) (k : Nat) (q : List Prim) :
    sentBytes (expandGroup c p k ++ q) = groupBytes c p k ++ sentBytes q := by
  simp [expandGroup, groupBytes]

/-- The characters of a CYCLE's primitives are the stream of R173. -/
theorem sentBytes_expandCycle (c : Config) (p : Profile) (r : Nat) :
    sentBytes (expandCycle c p r) = cycleBytes c p r := by
  induction r with
  | zero => rfl
  | succ r ih =>
    simp [expandCycle_succ, expandRepetition_eq_groups, ih, cycleBytes, List.replicate_succ]

theorem length_cycleBytes (c : Config) (p : Profile) (r : Nat) :
    (cycleBytes c p r).length = 16 * r := by
  simp [cycleBytes, groupBytes, Nat.mul_comm]

/-- Settles O24: the stream of R173 with the selectors of R170. -/
theorem cycleCharacterStream : Obligations.CycleCharacterStream := fun c r =>
  ⟨sentBytes_expandCycle c .all r, sentBytes_expandCycle c .na r, sentBytes_expandCycle c .eur r,
    sentBytes_expandCycle c .jpn r, sentBytes_expandCycle c .debug r,
    fun p => by rw [sentBytes_expandCycle, length_cycleBytes]⟩

end Sys2Proof.Machine

/-! PROOF. The DoorMonitor: its operations (R192 to R198), the edge detector (R190), and what a
delivery of the fixed interrupt program does, from its entry sample to its return (R199 to R201). -/

namespace Sys2Proof.Machine

/-! ### The operations and the edge detector -/

/-- What BDO does: it writes the live context's pc where the door reads open, and nothing else
(R193). -/
theorem exec_bdo (tgt : Index) (s : State) :
    exec (.bdo tgt) s = .next (s.branchIf (s.par.inputs.doorAt s.pos.t) tgt) := rfl

/-- What ARMSET does: it writes ArmState and nothing else (R196). -/
theorem exec_armset (s : State) : exec .armset s = .next { s with arm := true } := rfl

/-- Settles O13: the branch is taken exactly on an open door, and then writes the live context's
pc. -/
theorem bdoBranchesWhenOpen : Obligations.BdoBranchesWhenOpen := by
  intro tgt s
  rw [exec_bdo]
  refine ⟨rfl, rfl, fun hd => ?_, fun hd hc => ?_, fun hd hc => ?_⟩
  · rw [hd, State.branchIf]
    rfl
  · rw [hd, ← s.setPc_isr _ hc]
    rfl
  · rw [hd, ← s.setPc_main _ hc]
    rfl

/-- Settles O14: the word is the encoding of ARMSET, and writing true over true changes nothing. -/
theorem armsetArms : Obligations.ArmsetArms :=
  ⟨decodeOfEncode .armset rfl, rfl, rfl, fun s =>
    ⟨exec_armset s, fun ha => by rw [exec_armset, ← ha]⟩⟩

/-- Settles O17: CLRPEND's one effect is its record update (R192). -/
theorem clrpendClearsPending : Obligations.ClrpendClearsPending := ⟨rfl, rfl, fun _ => rfl⟩

/-- Settles O18: each of the two writes `ie` by one record update (R194, R197). -/
theorem idisAndIenWriteIe : Obligations.IdisAndIenWriteIe :=
  ⟨rfl, rfl, rfl, rfl, fun _ => ⟨rfl, rfl⟩⟩

/-- Settles O19: RETI's one effect is its record update (R198, R268). -/
theorem retiReturnsToMain : Obligations.RetiReturnsToMain := ⟨rfl, rfl, fun _ => rfl⟩

/-- Phase 1 on the configured edge: `pending` becomes true (R190). -/
theorem State.sampleDoor_of_edge {s : State}
    (h : edge s.par.cfg.doorEdge s.doorPrev s.door = true) :
    s.sampleDoor = { s with
      pending := true
      doorPrev := s.door
      pos := { s.pos with phase := .run, z := 0, b := 0 } } := by
  simp [State.sampleDoor, h]

/-- Phase 1 without the configured edge: `pending` stays (R190). -/
theorem State.sampleDoor_of_no_edge {s : State}
    (h : edge s.par.cfg.doorEdge s.doorPrev s.door = false) :
    s.sampleDoor = { s with
      doorPrev := s.door
      pos := { s.pos with phase := .run, z := 0, b := 0 } } := by
  simp [State.sampleDoor, h]

/-- A falling edge is open before and closed now (R190). -/
theorem edge_falling_iff (prev d : Bool) :
    edge .falling prev d = true ↔ prev = true ∧ d = false := by
  simp [edge]

/-- Any change is a difference of the two samples (R190). -/
theorem edge_anyChange_iff (prev d : Bool) : edge .anyChange prev d = true ↔ prev ≠ d := by
  simp [edge]

/-- Settles O35: a step at the start of a tick is phase 1, on an edge or without one. -/
theorem stepLatchesEdge : Obligations.StepLatchesEdge := by
  intro s hf hr hp d pos
  rw [step_sample hf hr hp]
  refine ⟨fun he h => ?_, fun he h => ?_, fun he h => ?_, fun he h => ?_⟩
  · rw [State.sampleDoor_of_edge (by rw [he]; exact (edge_falling_iff ..).mpr h)]
    rfl
  · rw [State.sampleDoor_of_no_edge
      (by rw [he]; exact Bool.eq_false_iff.mpr fun h' => h ((edge_falling_iff ..).mp h'))]
    rfl
  · rw [State.sampleDoor_of_edge (by rw [he]; exact (edge_anyChange_iff ..).mpr h)]
    rfl
  · rw [State.sampleDoor_of_no_edge
      (by rw [he]; exact Bool.eq_false_iff.mpr fun h' => (edge_anyChange_iff ..).mp h' h)]
    rfl

/-! ### Arming (R200, R309) -/

/-- The operation that a program's word decodes to stands at the word's index among the program's
operations. -/
theorem decodeAll_getElem? {p : List Word} {is : List Instr} {k : Nat} {w : Word} {op : Instr}
    (h : decodeAll p = some is) (hw : p[k]? = some w) (hd : decode w = .op op) :
    is[k]? = some op := by
  have hk := congrArg (·[k]?) (decodeAll_eq_some_iff.mp h)
  simpa [hw, hd, eq_comm] using hk

/-- ARMSET stands at index 5 of PROG_I alone (R96). -/
theorem fixedIsrOps_armset {k : Nat} (h : fixedIsrOps[k]? = some .armset) : k = 5 := by
  have hone : ∀ k < fixedIsrOps.length, fixedIsrOps[k]? = some .armset → k = 5 := by decide
  exact hone k (List.getElem?_eq_some_iff.mp h).1 h

/-- Settles O43: the one writer that raises ArmState is the ARMSET at index 5, which the invariant
says is reached on two closed samples. -/
theorem armingNeedsTwoClosedSamples : Obligations.ArmingNeedsTwoClosedSamples := by
  intro s t h ha hs ht
  obtain ⟨hc, w, hw, hd⟩ := (armHasTwoWriters s t hs).1 ha ht
  have hk : s.i.pc = 5 :=
    fixedIsrOps_armset (decodeAll_getElem? decodeAll_fixedIsr (h.progI ▸ hw) hd)
  exact h.confirmed hc hk

/-! ### Operations of the fixed interrupt program, one step each (R96, R122) -/

/-- The interrupt program's next operation, counted. -/
def State.isrStep (s : State) : State := s.countOperation.isrNext

@[simp] theorem State.isrStep_par (s : State) : s.isrStep.par = s.par :=
  s.countOperation.isrNext_par

@[simp] theorem State.isrStep_fault (s : State) : s.isrStep.fault = s.fault :=
  s.countOperation.isrNext_fault

@[simp] theorem State.isrStep_pos (s : State) :
    s.isrStep.pos = { s.pos with z := s.pos.z + 1 } := s.countOperation.isrNext_pos

/-- The fixed block of an admitted, unfaulted run, its interrupt context about to fetch, with room
under MAX_ZT for `n` operations. -/
structure IsrReady (n : Nat) (s : State) : Prop where
  block : BlockInv s
  fault : s.fault = none
  refusal : s.par.refusal = none
  ctx : s.ctx = .isr
  wait : s.i.wait = 0
  phase : s.pos.phase = .run
  room : s.pos.z + n ≤ s.par.cfg.maxZt

namespace IsrReady

variable {s : State} {n : Nat}

/-- The interrupt context is never interrupted: the step is the fetch (R265). -/
theorem step_eq (h : IsrReady (n + 1) s) : step s = .next s.isrStep := by
  have ho : s.opportunity = false := by simp [State.opportunity, h.ctx]
  have hcur := s.cur_isr h.ctx
  rw [step_checked h.fault h.refusal h.phase (.inl ho) (hcur ▸ h.wait) (by simp [h.ctx]),
    State.checked_of_no_opportunity ho,
    loopBody_runOne (hcur ▸ h.wait) (by simp [h.ctx]) (by have := h.room; omega)]
  exact (runOne_nil (s := s.countOperation) (hcur ▸ h.block.iQueue)).trans
    (h.block.countOperation.fetchExec_isr h.ctx)

theorem run_succ (h : IsrReady (n + 1) s) (k : Nat) :
    Host.Core.run Sys2Proof.core (k + 1) s = Host.Core.run Sys2Proof.core k s.isrStep :=
  Machine.run_succ h.step_eq k

/-- An operation that neither waits nor returns leaves the context about to fetch again. -/
theorem next (h : IsrReady (n + 1) s) (hc : s.isrStep.ctx = .isr) (hw : s.isrStep.i.wait = 0) :
    IsrReady n s.isrStep where
  block := h.block.of_step h.step_eq
  fault := s.isrStep_fault.trans h.fault
  refusal := s.isrStep_par ▸ h.refusal
  ctx := hc
  wait := hw
  phase := by simpa using h.phase
  room := by
    have := h.room
    simp only [State.isrStep_pos, State.isrStep_par]
    omega

/-- Only at index 4, behind its WAIT, can the interrupt program be waiting or at a tick's start
(R195). -/
theorem of_pc (h : BlockInv s) (hf : s.fault = none) (hr : s.par.refusal = none) (hc : s.ctx = .isr)
    (hk : s.i.pc ≠ 4) (hz : s.pos.z + n ≤ s.par.cfg.maxZt) : IsrReady n s :=
  ⟨h, hf, hr, hc, (h.isrTick hc hk).1, (h.isrTick hc hk).2, hz⟩

theorem mono {m : Nat} (h : IsrReady n s) (hm : m ≤ n) : IsrReady m s :=
  { h with room := (Nat.add_le_add_left hm _).trans h.room }

end IsrReady

/-- CLRPEND at index 0 (R192). -/
theorem State.isrStep_clrpend {s : State} (hk : s.i.pc = 0) :
    s.isrStep = { s with
      pending := false, i := { s.i with pc := 1 }, pos := { s.pos with z := s.pos.z + 1 } } := by
  simp [State.isrStep, State.isrNext, State.countOperation, hk]

/-- Settles O55: CLRPEND, BDO 7 taken, RETI. -/
theorem openEntryOnlyClearsPending : Obligations.OpenEntryOnlyClearsPending := by
  intro s h hf hr hc hk hd hz
  have h₀ : IsrReady 3 s := .of_pc h hf hr hc (by simp [hk]) hz
  have e₁ := State.isrStep_clrpend hk
  have h₁ : IsrReady 2 s.isrStep := h₀.next (by simp [e₁, hc]) (by simp [e₁, h₀.wait])
  have e₂ : s.isrStep.isrStep = { s with
      pending := false, i := { s.i with pc := 7 }, pos := { s.pos with z := s.pos.z + 2 } } := by
    rw [e₁]
    simp [State.isrStep, State.isrNext, State.countOperation, State.door, hd]
  have h₂ : IsrReady 1 s.isrStep.isrStep := h₁.next (by simp [e₂, hc]) (by simp [e₂, h₀.wait])
  rw [h₀.run_succ, h₁.run_succ, h₂.run_succ, e₂]
  rfl

/-! ### The debounce window (R195, R199, R201) -/

/-- The steps after a run go on from its end. -/
theorem run_add {s t : State} {j : Nat} (h : Host.Core.run Sys2Proof.core j s = .next t) (n : Nat) :
    Host.Core.run Sys2Proof.core (j + n) s = Host.Core.run Sys2Proof.core n t := by
  induction j generalizing s with
  | zero =>
    obtain rfl := Host.Outcome.next.inj h
    rw [Nat.zero_add]
  | succ j ih =>
    obtain ⟨-, r, -, hs⟩ | ⟨-, u, hs⟩ := step_refuses_or_answers s
    · have hs : Sys2Proof.core.step s = .refused r := hs
      simp [Host.Core.run, hs] at h
    · rw [run_succ hs] at h
      rw [Nat.add_right_comm, run_succ hs, ih h]

theorem State.noEdge_zero (s : State) : s.NoEdge 0 := fun _ hu => absurd hu (Nat.not_lt_zero _)

theorem State.noEdge_succ (s : State) (k : Nat) :
    s.NoEdge (k + 1) ↔ s.NoEdge k ∧
      edge s.par.cfg.doorEdge (s.doorBefore k) (s.par.inputs.doorAt (s.pos.t + k)) = false :=
  Nat.forall_lt_succ_right

/-- The window at the start of its tick te + k + 1, with what `InWindow` leaves out: the invariant,
the parameters, and the edge detector's sample of the tick before. -/
structure Debouncing (s : State) (k : Nat) (t : State) : Prop extends InWindow s t (k + 1) where
  block : BlockInv t
  par : t.par = s.par
  doorPrev : t.doorPrev = s.endTick.doorBefore k

/-- The state once the interrupt program has loaded the window, in the delivery tick (R195). -/
def State.windowLoaded (s : State) : State :=
  { s with
    pending := false, ie := false, i := { pc := 4, q := [], wait := ms s.par.cfg tDeb }
    pos := { s.pos with z := s.pos.z + 4 } }

/-- CLRPEND, BDO 7 not taken, IDIS, WAIT. -/
theorem run_windowLoaded {s : State} (h₀ : IsrReady 4 s) (hk : s.i.pc = 0) (hd : s.door = false) :
    Host.Core.run Sys2Proof.core 4 s = .next s.windowLoaded ∧ BlockInv s.windowLoaded := by
  rw [State.door] at hd
  have hc := h₀.ctx
  have e₁ := State.isrStep_clrpend hk
  have h₁ : IsrReady 3 s.isrStep := h₀.next (by simp [e₁, hc]) (by simp [e₁, h₀.wait])
  have e₂ : s.isrStep.isrStep = { s with
      pending := false, i := { s.i with pc := 2 }, pos := { s.pos with z := s.pos.z + 2 } } := by
    rw [e₁]
    simp [State.isrStep, State.isrNext, State.countOperation, State.door, hd]
  have h₂ : IsrReady 2 s.isrStep.isrStep := h₁.next (by simp [e₂, hc]) (by simp [e₂, h₀.wait])
  have e₃ : s.isrStep.isrStep.isrStep = { s with
      pending := false, ie := false, i := { s.i with pc := 3 }
      pos := { s.pos with z := s.pos.z + 3 } } := by
    rw [e₂]
    simp [State.isrStep, State.isrNext, State.countOperation]
  have h₃ : IsrReady 1 s.isrStep.isrStep.isrStep :=
    h₂.next (by simp [e₃, hc]) (by simp [e₃, h₀.wait])
  have e₄ : s.isrStep.isrStep.isrStep.isrStep = s.windowLoaded := by
    rw [e₃]
    simp [State.isrStep, State.isrNext, State.countOperation, State.windowLoaded, h₀.block.iQueue]
  rw [h₀.run_succ, h₁.run_succ, h₂.run_succ, h₃.run_succ, e₄]
  exact ⟨rfl, e₄ ▸ h₃.block.of_step h₃.step_eq⟩

/-- A step in which the interrupt context waits consumes the tick, whatever is pending (R195). -/
theorem step_isrWait {s : State} (hf : s.fault = none) (hr : s.par.refusal = none)
    (hp : s.pos.phase = .run) (hc : s.ctx = .isr) (hw : 0 < s.i.wait) :
    step s = .next s.spendTick :=
  step_wait hf hr hp (by simp [State.opportunity, hc]) (by rwa [s.cur_isr hc])

/-- The delivery tick is the first of the window's ticks. -/
theorem run_debouncing {s : State} (h₀ : IsrReady 4 s) (hk : s.i.pc = 0) (hd : s.door = false) :
    Host.Core.run Sys2Proof.core 5 s = .next s.windowLoaded.spendTick ∧
      Debouncing s 0 s.windowLoaded.spendTick := by
  obtain ⟨hrun, hb⟩ := run_windowLoaded h₀ hk hd
  have hw : 0 < s.windowLoaded.i.wait :=
    ms_pos (configInRange_iff.mp (refusal_none_config h₀.refusal)).2.1 (by decide)
  have hs : step s.windowLoaded = .next s.windowLoaded.spendTick :=
    step_isrWait h₀.fault h₀.refusal h₀.phase h₀.ctx hw
  refine ⟨(run_add hrun 1).trans (run_succ hs 0), ?_⟩
  replace hb := hb.of_step hs
  rw [s.windowLoaded.spendTick_isr h₀.ctx] at hb ⊢
  exact
    { phase := rfl, tick := rfl, ctx := h₀.ctx, ie := rfl, i := rfl
      pending := by simp [State.windowLoaded, State.noEdge_zero]
      arm := rfl, m := rfl, halted := rfl, data := rfl, gate := rfl, fault := h₀.fault
      block := hb, par := rfl, doorPrev := rfl }

namespace Debouncing

variable {s t : State} {k : Nat}

/-- The door level of a tick of the window (R22). -/
theorem door (h : Debouncing s k t) : t.door = s.par.inputs.doorAt (s.endTick.pos.t + k) := by
  rw [State.door, h.par, h.tick, State.endTick_pos, Nat.add_assoc, Nat.add_comm 1]

/-- Phase 1 of a tick of the window latches the tick's edge (R190, R201). -/
theorem sampleDoor_pending (h : Debouncing s k t) :
    t.sampleDoor.pending = true ↔ ¬ s.endTick.NoEdge (k + 1) := by
  rw [State.noEdge_succ, State.sampleDoor_pending, Bool.or_eq_true, h.pending, h.door, h.par,
    h.doorPrev, not_and_or, Bool.not_eq_false]
  rfl

/-- One more tick of the window: phase 1, and the tick consumed (R195). -/
theorem next (h : Debouncing s k t) (hr : s.par.refusal = none)
    (hk : k + 1 < ms s.par.cfg tDeb) :
    Host.Core.run Sys2Proof.core 2 t = .next t.sampleDoor.spendTick ∧
      Debouncing s (k + 1) t.sampleDoor.spendTick := by
  have hr' : t.par.refusal = none := h.par ▸ hr
  have hw : 0 < t.sampleDoor.i.wait := by
    rw [State.sampleDoor_i, h.i]
    exact Nat.sub_pos_of_lt hk
  have hs : step t.sampleDoor = .next t.sampleDoor.spendTick :=
    step_isrWait h.fault hr' rfl h.ctx hw
  have hb := h.block.sampleDoor.of_step hs
  have hpend := h.sampleDoor_pending
  refine ⟨(run_succ (step_sample h.fault hr' h.phase) 1).trans (run_succ hs 0), ?_⟩
  rw [t.sampleDoor.spendTick_isr h.ctx] at hb ⊢
  exact
    { phase := rfl, ctx := h.ctx, ie := h.ie, pending := hpend
      tick := congrArg Nat.succ h.tick
      i := by simp [h.i, Nat.sub_sub]
      arm := h.arm, m := h.m, halted := h.halted, data := h.data, gate := h.gate
      fault := h.fault, block := hb, par := h.par, doorPrev := h.door }

end Debouncing

/-- Every tick of the window is reached from the delivery (R195). -/
theorem exists_run_debouncing {s : State} (h₀ : IsrReady 4 s) (hk : s.i.pc = 0)
    (hd : s.door = false) (k : Nat) (hlt : k < ms s.par.cfg tDeb) :
    ∃ n t, Host.Core.run Sys2Proof.core n s = .next t ∧ Debouncing s k t := by
  induction k with
  | zero => exact ⟨5, _, run_debouncing h₀ hk hd⟩
  | succ k ih =>
    obtain ⟨n, t, hrun, ht⟩ := ih (Nat.lt_of_succ_lt hlt)
    obtain ⟨hrun', ht'⟩ := ht.next h₀.refusal hlt
    exact ⟨n + 2, _, (run_add hrun 2).trans hrun', ht'⟩

/-! ### The re-sample that ends the window (R199, R200) -/

/-- The interrupt program has returned from the state `s` with delivery on and ArmState `arm`, `n`
operations later (R197, R198). -/
def State.returned (s : State) (arm : Bool) (n : Nat) : State :=
  { s with
    arm := arm, ie := true, ctx := .main, i := { s.i with pc := 8 }
    pos := { s.pos with z := s.pos.z + n } }

/-- IEN, RETI. -/
theorem run_returned {s : State} (h₀ : IsrReady 2 s) (hk : s.i.pc = 6) :
    Host.Core.run Sys2Proof.core 2 s = .next (s.returned s.arm 2) := by
  have e₁ : s.isrStep = { s with
      ie := true, i := { s.i with pc := 7 }, pos := { s.pos with z := s.pos.z + 1 } } := by
    simp [State.isrStep, State.isrNext, State.countOperation, hk]
  have h₁ : IsrReady 1 s.isrStep := h₀.next (by simp [e₁, h₀.ctx]) (by simp [e₁, h₀.wait])
  rw [h₀.run_succ, h₁.run_succ, e₁]
  rfl

/-- BDO 6, ARMSET where the door reads closed, IEN, RETI. -/
theorem run_resample {s : State} (h₀ : IsrReady 4 s) (hk : s.i.pc = 4) :
    ∃ n z, Host.Core.run Sys2Proof.core n s = .next (s.returned (s.arm || !s.door) z) := by
  have hc := h₀.ctx
  cases hd : s.door with
  | true =>
    have e₁ : s.isrStep = { s with
        i := { s.i with pc := 6 }, pos := { s.pos with z := s.pos.z + 1 } } := by
      rw [State.door] at hd
      simp [State.isrStep, State.isrNext, State.countOperation, State.door, hk, hd]
    have h₁ : IsrReady 3 s.isrStep := h₀.next (by simp [e₁, hc]) (by simp [e₁, h₀.wait])
    refine ⟨3, 3, (h₀.run_succ 2).trans
      ((run_returned (h₁.mono (by decide)) (by simp [e₁])).trans ?_)⟩
    simp [e₁, State.returned]
  | false =>
    have e₁ : s.isrStep = { s with
        i := { s.i with pc := 5 }, pos := { s.pos with z := s.pos.z + 1 } } := by
      rw [State.door] at hd
      simp [State.isrStep, State.isrNext, State.countOperation, State.door, hk, hd]
    have h₁ : IsrReady 3 s.isrStep := h₀.next (by simp [e₁, hc]) (by simp [e₁, h₀.wait])
    have e₂ : s.isrStep.isrStep = { s with
        arm := true, i := { s.i with pc := 6 }, pos := { s.pos with z := s.pos.z + 2 } } := by
      rw [e₁]
      simp [State.isrStep, State.isrNext, State.countOperation]
    have h₂ : IsrReady 2 s.isrStep.isrStep := h₁.next (by simp [e₂, hc]) (by simp [e₂, h₀.wait])
    refine ⟨4, 4, (h₀.run_succ 3).trans ((h₁.run_succ 2).trans
      ((run_returned h₂ (by simp [e₂])).trans ?_))⟩
    simp [e₂, State.returned]

/-- From the start of the re-sample tick to the return (R199, R200, R201). -/
theorem Debouncing.exists_run_windowOver {s t : State} {k : Nat} (h : Debouncing s k t)
    (hr : s.par.refusal = none) (hk : k + 1 = ms s.par.cfg tDeb) :
    ∃ n u, Host.Core.run Sys2Proof.core n t = .next u ∧ WindowOver s u := by
  have hr' : t.par.refusal = none := h.par ▸ hr
  have hz := (configInRange_iff.mp (refusal_none_config hr')).2.2
  have hready : IsrReady 4 t.sampleDoor :=
    ⟨h.block.sampleDoor, h.fault, hr', h.ctx, by simp [h.i, hk], rfl,
      (by omega : 0 + 4 ≤ t.par.cfg.maxZt)⟩
  obtain ⟨n, z, hrun⟩ := run_resample hready (by simp [h.i])
  refine ⟨n + 1, _, (run_succ (step_sample h.fault hr' h.phase) n).trans hrun, ?_⟩
  exact
    { phase := rfl, tick := hk ▸ h.tick, ctx := rfl, ie := rfl, iPc := rfl
      pending := hk ▸ h.sampleDoor_pending
      arm := by
        rw [← hk, ← h.arm, ← h.tick, ← h.par]
        rfl
      m := h.m, halted := h.halted, data := h.data, gate := h.gate, fault := h.fault }

/-- Settles O59: the four operations of the delivery tick, the window tick by tick, and the
re-sample. -/
theorem closedEntryDebounces : Obligations.ClosedEntryDebounces := by
  intro s h hf hr hc hk hd hz
  have h₀ : IsrReady 4 s := .of_pc h hf hr hc (by simp [hk]) hz
  have hwin := exists_run_debouncing h₀ hk hd
  have hpos : 0 < ms s.par.cfg tDeb :=
    ms_pos (configInRange_iff.mp (refusal_none_config hr)).2.1 (by decide)
  refine ⟨(run_windowLoaded h₀ hk hd).1, fun x hx₁ hx₂ => ?_, ?_⟩
  · obtain ⟨k, rfl⟩ := Nat.exists_eq_add_of_le' hx₁
    obtain ⟨n, t, hrun, ht⟩ := hwin k hx₂
    exact ⟨n, t, hrun, ht.toInWindow⟩
  · obtain ⟨k, hk'⟩ := Nat.exists_eq_add_of_le' hpos
    obtain ⟨n, t, hrun, ht⟩ := hwin k (by omega)
    obtain ⟨j, u, hrun', hu⟩ := ht.exists_run_windowOver hr hk'.symm
    exact ⟨n + j, u, (run_add hrun j).trans hrun', hu⟩

end Sys2Proof.Machine

/-! PROOF. The InjectionController: its operations (R230, R231, R233, R234), and the one step of the
fixed block that disarms it (R238). -/

namespace Sys2Proof.Machine

/-! ### The operations -/

/-- What BNA does: it writes the live context's pc where the block is not armed, and nothing else
(R230). -/
theorem exec_bna (tgt : Index) (s : State) :
    exec (.bna tgt) s = .next (s.branchIf (!s.arm) tgt) := rfl

/-- What MODE does: it writes the lines it names, both at once, and nothing else (R231). -/
theorem exec_mode (d g : Bool) (m : LineMode) (s : State) :
    exec (.mode d g m) s = .next { s with
      data := if d = true then dataOfMode m else s.data
      gate := if g = true then gateOfMode m else s.gate } := by
  change Host.Outcome.next (modeGate g m (modeData d m s)) = _
  rw [modeGate_eq_driveGate, modeData_eq_driveData]
  rfl

/-- What ARMCLR does: it writes ArmState and nothing else (R233). -/
theorem exec_armclr (s : State) : exec .armclr s = .next { s with arm := false } := rfl

/-- What HALT does: it writes the halt and nothing else (R234). -/
theorem exec_halt (s : State) : exec .halt s = .next { s with halted := true } := rfl

/-- Settles O11: the branch is taken exactly when the block is not armed, and then writes the live
context's pc. -/
theorem bnaBranchesWhenDisarmed : Obligations.BnaBranchesWhenDisarmed := by
  intro tgt s
  refine ⟨rfl, rfl, fun ha => ?_, fun ha hc => ?_, fun ha hc => ?_⟩
  · rw [exec_bna, ha]
    rfl
  · rw [← s.setPc_main _ hc, exec_bna, ha]
    rfl
  · rw [← s.setPc_isr _ hc, exec_bna, ha]
    rfl

/-- Settles O12: the six words are the encodings of MODE, and each of its two modes writes the named
lines alone. -/
theorem modeSetsNamedLines : Obligations.ModeSetsNamedLines :=
  ⟨decodeOfEncode (.mode true false .hiz) rfl, decodeOfEncode (.mode false true .hiz) rfl,
    decodeOfEncode (.mode true true .hiz) rfl, decodeOfEncode (.mode true false .driveLow) rfl,
    decodeOfEncode (.mode false true .driveLow) rfl, decodeOfEncode (.mode true true .driveLow) rfl,
    fun d g _ s => ⟨rfl, rfl, exec_mode d g .hiz s, exec_mode d g .driveLow s⟩⟩

/-- Settles O15: ARMCLR does not read ArmState. -/
theorem armclrDisarms : Obligations.ArmclrDisarms :=
  ⟨rfl, rfl, fun s => ⟨exec_armclr s, exec_armclr { s with arm := true }⟩⟩

/-- Settles O16: HALT's one effect is its record update. -/
theorem haltSetsHalted : Obligations.HaltSetsHalted := ⟨rfl, rfl, exec_halt⟩

/-! ### Disarming (R238) -/

/-- A pass that writes ArmState is a fetch, with nothing queued and no wait (R24, R121). -/
theorem loopBody_of_arm_ne {s t : State} (h : loopBody s = .next t) (ha : t.arm ≠ s.arm) :
    s.cur.wait = 0 ∧ s.cur.q = [] ∧ fetchExec s.countOperation = .next t := by
  obtain ⟨-, hb⟩ | ⟨-, -, hb⟩ | ⟨-, -, -, hb⟩ | ⟨-, -, -, p, ps, -, hb⟩ | ⟨hw, -, -, hq, hb⟩ :=
    loopBody_cases s
  · obtain rfl := Host.Outcome.next.inj (hb.symm.trans h)
    exact absurd (KeepsFlags.spendTick s).arm ha
  · obtain rfl := Host.Outcome.next.inj (hb.symm.trans h)
    exact absurd rfl ha
  · obtain rfl := Host.Outcome.next.inj (hb.symm.trans h)
    exact absurd rfl ha
  · obtain rfl := Host.Outcome.next.inj (hb.symm.trans h)
    exact absurd (KeepsFlags.queuedPrim s p ps).arm ha
  · exact ⟨hw, hq, hb.symm.trans h⟩

/-- A step that writes ArmState is a fetch of an admitted run, with nothing queued and no wait, behind
a delivery check that delivers nothing (R24, R121). -/
theorem step_of_arm_ne {s t : State} (h : step s = .next t) (ha : t.arm ≠ s.arm) :
    s.par.refusal = none ∧ s.cur.wait = 0 ∧ s.cur.q = [] ∧
      fetchExec s.checked.countOperation = .next t := by
  obtain ⟨-, hs⟩ | ⟨-, r, -, hs⟩ |
    ⟨-, hr, ⟨-, hs⟩ | ⟨-, -, -, hs⟩ | ⟨-, ho, -, hs⟩ | ⟨-, ho, hs⟩⟩ := step_cases s
  · obtain rfl := Host.Outcome.next.inj (hs.symm.trans h)
    exact absurd rfl ha
  · simp [hs] at h
  · obtain rfl := Host.Outcome.next.inj (hs.symm.trans h)
    exact absurd rfl ha
  · obtain rfl := Host.Outcome.next.inj (hs.symm.trans h)
    exact absurd rfl ha
  · rw [State.checked_of_opportunity ho]
    exact ⟨hr, loopBody_of_arm_ne (s := s.countOpportunity) (hs.symm.trans h) ha⟩
  · rw [State.checked_of_no_opportunity ho]
    exact ⟨hr, loopBody_of_arm_ne (hs.symm.trans h) ha⟩

theorem BlockInv.checked {s : State} (h : BlockInv s) : BlockInv s.checked := { h with }

/-- Of the fixed main program's operations ARMCLR, at index 8, alone writes ArmState (R96, R233). -/
theorem State.mainNext_arm (s : State) :
    s.mainNext.arm = if s.m.pc = 8 then false else s.arm := by
  unfold State.mainNext
  split <;> simp_all

/-- ARMCLR goes on to HALT (R96). -/
theorem State.mainNext_pc_of_armclr {s : State} (hk : s.m.pc = 8) : s.mainNext.m.pc = 9 := by
  simp [State.mainNext, hk]

/-- Settles O44: the one writer that clears ArmState is fetched by the main context, whose program has
it at index 8 alone. -/
theorem noPartialCycleDisarms : Obligations.NoPartialCycleDisarms := by
  intro s t h ha hs ht
  obtain ⟨hc, -⟩ := (armHasTwoWriters s t hs).2 ha ht
  obtain ⟨hr, hw, hq, hf⟩ := step_of_arm_ne hs (by simp [ha, ht])
  rw [s.cur_main hc] at hw hq
  obtain rfl : s.checked.countOperation.mainNext = t :=
    Host.Outcome.next.inj ((h.checked.countOperation.fetchExec_main hr hc).symm.trans hf)
  have hk : s.m.pc = 8 := by
    by_contra hk
    have harm : s.checked.countOperation.mainNext.arm = s.arm :=
      (State.mainNext_arm _).trans (if_neg hk)
    simp [harm, ha] at ht
  exact ⟨hc, hk, hq, hw, State.mainNext_pc_of_armclr hk⟩

end Sys2Proof.Machine

/-! PROOF. Taking the interrupt: when an opportunity delivers, and the step that does (R264, R265). -/

namespace Sys2Proof.Machine

/-- An opportunity delivers where the main context would only consume the tick, or by the draw (R265). -/
theorem delivers_iff (s : State) :
    s.delivers = true ↔
      s.halted = true ∨ 0 < s.m.wait ∨ s.par.inputs.drawAt s.pos.t s.pos.b = true := by
  simp [State.delivers, State.mustDeliver, State.draw, or_assoc]

/-- A pass at an opportunity that delivers is the delivery, with the opportunity counted (R264). -/
theorem loopStep_delivers {s : State} (ho : s.opportunity = true) (hd : s.delivers = true) :
    loopStep s = .next s.countOpportunity.deliver := by
  simp [loopStep, ho, hd]

/-- Settles O34: the flags make an opportunity, and each of the three grounds has it deliver. -/
theorem stepTakesInterrupt : Obligations.StepTakesInterrupt := by
  intro s hf hr hp hc hpend hie hground
  have ho : s.opportunity = true := (opportunity_iff s).mpr ⟨hc, hpend, hie⟩
  have hd : s.delivers = true := (delivers_iff s).mpr hground
  exact (step_run hf hr hp).trans (loopStep_delivers ho hd)

end Sys2Proof.Machine

/-! PROOF. The main context of the fixed block, operation by operation, and the first tick after reset
(R303, R304). -/

namespace Sys2Proof.Machine

/-! ### Operations of the fixed main program, one pass each (R96, R122) -/

/-- The main program's next operation, counted. -/
def State.mainStep (s : State) : State := s.countOperation.mainNext

@[simp] theorem State.mainStep_ctx (s : State) : s.mainStep.ctx = s.ctx :=
  s.countOperation.mainNext_ctx

@[simp] theorem State.mainStep_pending (s : State) : s.mainStep.pending = s.pending :=
  s.countOperation.mainNext_pending

@[simp] theorem State.mainStep_fault (s : State) : s.mainStep.fault = s.fault :=
  s.countOperation.mainNext_fault

@[simp] theorem State.mainStep_pos (s : State) :
    s.mainStep.pos = { s.pos with z := s.pos.z + 1 } := s.countOperation.mainNext_pos

@[simp] theorem State.mainStep_par (s : State) : s.mainStep.par = s.par :=
  s.countOperation.mainNext_par

/-- The fixed block of an admitted, unfaulted run with nothing pending, its main context about to
fetch, with room under MAX_ZT for `n` operations. -/
structure MainReady (n : Nat) (s : State) : Prop where
  block : BlockInv s
  fault : s.fault = none
  refusal : s.par.refusal = none
  ctx : s.ctx = .main
  pending : s.pending = false
  awake : s.halted = false
  queue : s.m.q = []
  wait : s.m.wait = 0
  phase : s.pos.phase = .run
  room : s.pos.z + n ≤ s.par.cfg.maxZt

/-- With nothing pending there is no opportunity (R265). -/
theorem opportunity_of_not_pending {s : State} (hp : s.pending = false) : s.opportunity = false :=
  (opportunity_eq_false_iff s).mpr fun _ => .inl hp

namespace MainReady

variable {s : State} {n : Nat}

/-- With nothing to deliver the pass is the fetch. -/
theorem tickPass_eq (h : MainReady (n + 1) s) : tickPass s = .next s.mainStep := by
  have hcur := s.cur_main h.ctx
  rw [tickPass_of_no_opportunity (opportunity_of_not_pending h.pending),
    loopBody_runOne (hcur ▸ h.wait) (fun _ => h.awake) (by have := h.room; omega)]
  exact (runOne_nil (s := s.countOperation) (hcur ▸ h.queue)).trans
    (h.block.countOperation.fetchExec_main h.refusal h.ctx)

/-- No operation of the main program leaves the loop by itself (R121). -/
theorem tickLoop_succ (h : MainReady (n + 1) s) (k : Nat) :
    tickLoop (k + 1) s = tickLoop k s.mainStep :=
  tickLoop_next h.tickPass_eq
    (leftLoop_eq_false_iff.mpr ⟨by simp [h.phase], s.mainStep_fault.trans h.fault⟩)

/-- An operation that neither halts, nor queues, nor waits leaves the context about to fetch again. -/
theorem next (h : MainReady (n + 1) s) (hh : s.mainStep.halted = false) (hq : s.mainStep.m.q = [])
    (hw : s.mainStep.m.wait = 0) : MainReady n s.mainStep where
  block := h.block.countOperation.mainNext h.ctx h.queue h.awake
  fault := s.mainStep_fault.trans h.fault
  refusal := s.mainStep_par ▸ h.refusal
  ctx := s.mainStep_ctx.trans h.ctx
  pending := s.mainStep_pending.trans h.pending
  awake := hh
  queue := hq
  wait := hw
  phase := by simpa using h.phase
  room := by
    have := h.room
    simp only [State.mainStep_pos, State.mainStep_par]
    omega

end MainReady

/-- BNA at index 0: on to the WAIT at index 1 where the block is armed, else to HALT (R230). -/
theorem State.mainStep_bna {s : State} (hk : s.m.pc = 0) :
    s.mainStep = { s with
      m := { s.m with pc := if s.arm = true then 1 else 9 }
      pos := { s.pos with z := s.pos.z + 1 } } := by
  cases ha : s.arm <;> simp [State.mainStep, State.mainNext, State.countOperation, hk, ha]

/-! ### The first tick (R303, R304) -/

/-- A sample equal to the one before is no edge, whatever DOOR_EDGE (R190). -/
theorem edge_self (e : DoorEdge) (d : Bool) : edge e d d = false := by
  cases e <;> simp [edge]

/-- R304: phase 1 of tick 0 latches nothing, for the edge detector was primed with the same sample. -/
theorem sampleDoor_resetWith (c : Config) (x : Inputs) :
    (State.resetWith c x).sampleDoor = { State.resetWith c x with pos := { phase := .run } } := by
  have he : edge c.doorEdge (x.doorAt 0) (x.doorAt 0) = false := edge_self _ _
  simp [State.sampleDoor, State.resetWith, State.door, he]

/-- The first tick's loop starts with the main context about to fetch, and all of MAX_ZT to spend
(R8, R301). -/
theorem MainReady.resetWith {c : Config} (x : Inputs) (hc : configInRange c = true) :
    MainReady 32 (State.resetWith c x).sampleDoor where
  block := (BlockInv.resetWith c x).sampleDoor
  fault := rfl
  refusal := ((resetHasBlockInv c x).2 hc).refusal_eq_none
  ctx := rfl
  pending := by rw [sampleDoor_resetWith]; rfl
  awake := rfl
  queue := rfl
  wait := rfl
  phase := rfl
  room := (Nat.zero_add 32).trans_le (configInRange_iff.mp hc).2.2

/-- The first tick is BNA, one operation more, and the pass that then ends the tick (R303). -/
theorem tick_resetWith {c : Config} {x : Inputs} {u t : State} (hc : configInRange c = true)
    (hu : (State.resetWith c x).sampleDoor.mainStep.mainStep = u) (hb : loopBody u = .next t)
    (hp : t.pos.phase = .sample) : tick (State.resetWith c x) = .next t := by
  have h₀ := MainReady.resetWith x hc
  have e₁ := State.mainStep_bna (s := (State.resetWith c x).sampleDoor) rfl
  have h₁ : MainReady 31 (State.resetWith c x).sampleDoor.mainStep :=
    h₀.next (by rw [e₁]; rfl) (by rw [e₁]; rfl) (by rw [e₁]; rfl)
  have hpend : u.pending = false := by rw [← hu, State.mainStep_pending, h₁.pending]
  have hpass : tickPass u = .next t :=
    (tickPass_of_no_opportunity (opportunity_of_not_pending hpend)).trans hb
  obtain ⟨k, hk⟩ : ∃ k, (State.resetWith c x).par.cfg.maxZt = k + 32 :=
    Nat.exists_eq_add_of_le' (configInRange_iff.mp hc).2.2
  rw [tick_admitted (s := State.resetWith c x) rfl h₀.refusal, hk, h₀.tickLoop_succ,
    h₁.tickLoop_succ, hu, tickLoop_left hpass (leftLoop_iff.mpr (.inl hp))]

/-- Disarmed, BNA is taken to the HALT at index 9 (R230, R234). -/
theorem mainStep_mainStep_of_disarmed {c : Config} (x : Inputs) (ha : c.armReset = false) :
    (State.resetWith c x).sampleDoor.mainStep.mainStep = { State.resetWith c x with
      m := { pc := 10 }, halted := true, pos := { phase := .run, z := 2 } } := by
  rw [sampleDoor_resetWith, State.mainStep_bna (s := { State.resetWith c x with pos := _ }) rfl]
  simp [State.resetWith, ha, State.mainStep, State.mainNext, State.countOperation]

/-- Armed, BNA falls through to the WAIT at index 1 (R123, R230). -/
theorem mainStep_mainStep_of_armed {c : Config} (x : Inputs) (ha : c.armReset = true) :
    (State.resetWith c x).sampleDoor.mainStep.mainStep = { State.resetWith c x with
      m := { pc := 2, wait := ms c tWarmA }, pos := { phase := .run, z := 2 } } := by
  rw [sampleDoor_resetWith, State.mainStep_bna (s := { State.resetWith c x with pos := _ }) rfl]
  simp [State.resetWith, ha, State.mainStep, State.mainNext, State.countOperation]

/-- Settles O56: behind HALT the third pass idles; behind WAIT it spends the first of the wait's
ticks. -/
theorem firstTickFollowsArmReset : Obligations.FirstTickFollowsArmReset := by
  intro c x hc
  refine ⟨fun ha => ?_, fun ha => ?_⟩
  · exact ⟨_, tick_resetWith hc (mainStep_mainStep_of_disarmed x ha) (loopBody_idle rfl rfl) rfl,
      by simp [State.quiescent, State.resetWith, ha], rfl, rfl,
      by simp [State.report, State.resetWith, ha]⟩
  · have hw : 0 < ms c tWarmA := ms_pos (configInRange_iff.mp hc).2.1 (by decide)
    exact ⟨_, tick_resetWith hc (mainStep_mainStep_of_armed x ha) (loopBody_wait hw) rfl,
      rfl, rfl, rfl, rfl, rfl, by simp [State.report, State.resetWith, State.spendTick, ha]⟩

end Sys2Proof.Machine
